-- ==== Sys2Proof/Word.lean ====
section
/-! DEFINITION. The byte and word types and the three word widths (spec 00_scope R5, R13). -/

namespace Sys2Proof

/-- A byte, 8 bits (R13). -/
abbrev Byte := BitVec 8

/-- A word register: 64 bits, so that it can hold a word of any supported width (10_state R21). -/
abbrev Word := BitVec 64

/-- The word width `w`, "a fixed variant of {16, 32, 64} bits" (R5). -/
inductive Width where
  | w16
  | w32
  | w64
  deriving DecidableEq, Repr

/-- The number of bits `w` of a width (R14). -/
def Width.bits : Width → Nat
  | .w16 => 16
  | .w32 => 32
  | .w64 => 64

end Sys2Proof
end

