-- ==== Sys2Proof/Machine/Codec.lean ====
section
/-! DEFINITION. WordCodec's functions and the word arithmetic, on words alone (spec 00_scope R14,
40_wordcodec R120 to R125). Words stand zero-extended in 64 bits and every result is masked to the width
(DEDUCED from R124, safe; log entry 16). -/

namespace Sys2Proof.Machine

/-- `ceil(a/b)` (00_scope R13). -/
def ceilDiv (a b : Nat) : Nat := (a + b - 1) / b

/-- `wb`, bytes per word (R14). -/
def wordBytes (w : Width) : Nat := w.bits / 8

/-- `bs`, the block size in bytes (R14). -/
def blockSize (w : Width) : Nat := 2 * wordBytes w

/-- `mask = 2^w - 1` (R14). -/
def mask (w : Width) : Word := BitVec.ofNat 64 (2 ^ w.bits - 1)

/-- `v AND mask`: the word a 64-bit value holds at width `w`. -/
def toWord (w : Width) (v : Word) : Word := v &&& mask w

/-- `x + y` "(mod 2^width)" (R124). -/
def wordAdd (w : Width) (x y : Word) : Word := toWord w (x + y)

/-- `x - y`, wrapping (R124). -/
def wordSub (w : Width) (x y : Word) : Word := toWord w (x - y)

/-- `rotl(v, s)`: the amount is reduced modulo the width (R122). -/
def rotl (w : Width) (v s : Word) : Word :=
  let v' := toWord w v
  let n := s.toNat % w.bits
  if n = 0 then v' else toWord w ((v' <<< n) ||| (v' >>> (w.bits - n)))

/-- `rotr(v, s)` (R123). -/
def rotr (w : Width) (v s : Word) : Word :=
  let v' := toWord w v
  let n := s.toNat % w.bits
  if n = 0 then v' else toWord w ((v' >>> n) ||| (v' <<< (w.bits - n)))

/-- Little-endian unsigned assembly: the first byte is the least significant (R120). -/
def bytesToWord : List Byte → Word
  | [] => 0
  | b :: bs => b.setWidth 64 + (bytesToWord bs <<< 8)

/-- Little-endian disassembly into exactly `wb` bytes; bits at and above `w` are not emitted (R121). -/
def wordToBytes (w : Width) (v : Word) : List Byte :=
  (List.range (wordBytes w)).map fun i => (v >>> (8 * i)).setWidth 8

/-- The pair of words in the `2*wb` bytes of a block: the word at the lower offsets is the first (20_memory R63). -/
def pairOfBytes (w : Width) (bytes : List Byte) : Word × Word :=
  (bytesToWord (bytes.take (wordBytes w)), bytesToWord (bytes.drop (wordBytes w)))

/-- The `2*wb` bytes of a pair, the first word at the lower offsets (20_memory R63). -/
def bytesOfPair (w : Width) (v0 v1 : Word) : List Byte := wordToBytes w v0 ++ wordToBytes w v1

/-- The width a selector value names: 0, 1, 2; none for 3 (00_scope R5). -/
def widthOfSel : Nat → Option Width
  | 0 => some .w16
  | 1 => some .w32
  | 2 => some .w64
  | _ => none

/-- The selector value of a width (00_scope R5). -/
def selOfWidth : Width → BitVec 2
  | .w16 => 0
  | .w32 => 1
  | .w64 => 2

end Sys2Proof.Machine
end

