-- ==== Sys2Proof/Config.lean ====
section
/-! DEFINITION. What the implementation fixes and what the spec leaves free: the parameters of the step relation
(spec 00_scope R8 to R11, 10_state R46), the names of the buffers, and the free values, which have no body. -/

namespace Sys2Proof

/-- The three byte buffers, each a space of its own (20_memory R60). -/
inductive Buf where
  | password
  | input
  | output
  deriving DecidableEq, Repr

/-- The parameters of the step relation (10_state R46), as plain data.
They are arguments of the model: a statement over all states is a statement over all their values. No step writes
them (DESIGN CHOICE, safe; log entry 1). -/
structure Platform where
  /-- capacity of PWD in bytes (R8) -/
  PWD_MAX : Nat
  /-- capacity of IN in bytes (R8); OUT_MAX is `IN_MAX + 32` -/
  IN_MAX : Nat
  /-- the magic constants, one pair per width (R9); the types give `0 <= P_w, Q_w <= 2^w - 1` -/
  P16 : BitVec 16
  Q16 : BitVec 16
  P32 : BitVec 32
  Q32 : BitVec 32
  P64 : BitVec 64
  Q64 : BitVec 64
  /-- output length of the hash collaborator in bytes (R10) -/
  HLEN : Nat
  /-- what is known of HASH, as pairs of message and answer; for every other message the answer is the free value
  `Config.hashByte` (DESIGN CHOICE, safe; log entry 2) -/
  hashKnown : List (List Byte × List Byte)
  deriving DecidableEq, Repr

/-- The constraints R8 and R10 put on the parameters. -/
abbrev Platform.wf (p : Platform) : Prop :=
  1 ≤ p.PWD_MAX ∧ 16 ≤ p.IN_MAX ∧ p.IN_MAX ≤ 2 ^ 24 - 32 ∧ p.IN_MAX % 16 = 0 ∧ 1 ≤ p.HLEN

/-- Free value: byte `i` of the answer of a hash unit of output length `hlen` to a message (R10: "any
fixed-output-length hash"). Log entry 2. -/
opaque Config.hashByte (hlen : Nat) (message : List Byte) (i : Nat) : Byte

/-- Free value: one less than the hash output length of the machine after reset; R10 asks only `HLEN >= 1`.
Log entry 5. -/
opaque Config.hashLenLessOne : Nat

/-- Free value: the `n`-th draw of the random collaborator, "a free 64-bit input under no law" (R11). Log entry 3. -/
opaque Config.draw (n : Nat) : BitVec 64

/-- Free value: what the byte at an offset of a buffer holds after the `epoch`-th reset until it is written
(70_reset_and_hazards R312: "each byte may hold any value"). Log entry 4. -/
opaque Config.powerOnByte (epoch : Nat) (b : Buf) (off : Nat) : Byte

/-- The parameters at the spec's defaults (R8, R9), with a free hash and a free output length. The machine after
reset has these (DESIGN CHOICE, unsafe; log entry 5). -/
def Platform.default : Platform where
  PWD_MAX := 256
  IN_MAX := 4096
  P16 := 0xB7E1
  Q16 := 0x9E37
  P32 := 0xB7E15163
  Q32 := 0x9E3779B9
  P64 := 0xB7E151628AED2A6B
  Q64 := 0x9E3779B97F4A7C15
  HLEN := Config.hashLenLessOne + 1
  hashKnown := []

end Sys2Proof
end

