-- ==== Sys2Proof/Machine/State.lean ====
section
/-! DEFINITION. The state of the FCE as plain data (spec 10_state R20 to R48), the events that move it, the reasons a
step can stop, and the state after reset. Field names are the spec's own. -/

namespace Sys2Proof.Machine

/-- A buffer's contents: the bytes written since reset, addresses strictly rising. An unlisted offset has no value
of its own; what reading it gives is the free value of `byteAt` (log entry 4). -/
abbrev Memory := List Host.Cell

/-- The canonical form: addresses strictly rising. An unlisted offset has no value, so no entry can equal it. -/
abbrev Memory.wf (m : Memory) : Prop := m.Pairwise (fun c d => c.1 < d.1)

/-- The phases of the sequencer (10_state R29, 45_system R254). -/
inductive Phase where
  | IDLE
  | DECODE
  | EXEC
  | K_HASH
  | K_SPLIT
  | K_MIX
  | P_PRE
  | P_ROUND
  | P_POST
  | E_IV
  | E_IVROUND
  | E_LOAD
  | E_ROUND
  | D_IVLOAD
  | D_IVROUND
  | D_LOAD
  | D_ROUND
  | D_UNPAD
  deriving DecidableEq, Repr

/-- The STATUS register, field by field (10_state R31); bits 7:6 and 31:12 are reserved, read as 0 and have no storage. -/
structure Status where
  BUSY : Bool
  KEYED : Bool
  DONE : Bool
  ERR : Bool
  PADNV : Bool
  HERR : Bool
  ERRCODE : BitVec 4
  deriving DecidableEq, Repr

/-- The error kinds (60_exceptions R280). -/
inductive ErrCode where
  | E_ILLCMD
  | E_STATE
  | E_CONFIG
  | E_RANGE
  | E_CTLEN
  deriving DecidableEq, Repr

/-- One host access at the port (20_memory R60, R61): a whole register or one byte of a buffer.
A written value travels on 64 lines; a 32-bit register takes the low 32 (DESIGN CHOICE, unsafe; log entry 10). -/
inductive HostAccess where
  | readReg (index : Nat)
  | writeReg (index : Nat) (value : BitVec 64)
  | readByte (b : Buf) (off : Nat)
  | writeByte (b : Buf) (off : Nat) (value : Byte)
  deriving DecidableEq, Repr

/-- What moves the machine next (00_scope R12, 45_system R254, R255, 70_reset_and_hazards R310).
DESIGN CHOICE, safe; log entry 6. -/
inductive Turn where
  /-- one access by the host -/
  | host (a : HostAccess)
  /-- one step of the sequencer, by the row of R254 -/
  | sequencer
  /-- the atomic view of R255: the CMD write of a word and the whole command, in one transition -/
  | command (v : BitVec 32)
  /-- the reset input is asserted -/
  | reset
  deriving DecidableEq, Repr

/-- The whole state of the FCE (10_state R20), and below it the model's own fields. CMD and CFG hold nothing of their
own: CMD is `OPR` (R30), CFG is a view (R38). -/
structure State where
  /-- the word pair, general registers (R21) -/
  A : Word
  B : Word
  /-- working pair of the primitive (R22) -/
  X : Word
  Y : Word
  /-- chaining value (R23) -/
  CV0 : Word
  CV1 : Word
  /-- key-mixing accumulators (R24) -/
  KA : Word
  KB : Word
  /-- construction latches (R25); `WSEL` holds 0, 1 or 2 (DEDUCED, safe; log entry 11) -/
  WSEL : Width
  R : BitVec 8
  KLEN : BitVec 8
  /-- subkey table (R26) -/
  S : Vector Word 512
  /-- secret key bytes (R27) -/
  KEY : Vector Byte 255
  /-- key word sequence (R28) -/
  L : Vector Word 128
  /-- last hash answer (R45) -/
  HBUF : List Byte
  /-- sequencer state (R29) -/
  PHASE : Phase
  OPR : BitVec 32
  RC : BitVec 9
  BI : BitVec 32
  KI : BitVec 9
  KJ : BitVec 7
  KN : BitVec 11
  HC : BitVec 8
  STATUS : Status
  PWD_LEN : BitVec 32
  IN_LEN : BitVec 32
  OUT_LEN : BitVec 32
  /-- the buffers (R42 to R44) -/
  PWD : Memory
  IN : Memory
  OUT : Memory
  /-- model's own: the parameters of the step relation (R46); no step writes them (log entry 1) -/
  platform : Platform
  /-- model's own: the events to come (log entry 6) -/
  turns : List Turn
  /-- model's own: what the port answered to the latest host read (log entry 9) -/
  readData : BitVec 64
  /-- model's own: random answers waiting at the RNG port, the first first (log entry 3) -/
  rngAnswers : List (BitVec 64)
  /-- model's own: how many free draws have been taken (log entry 3) -/
  drawn : Nat
  /-- model's own: how many resets the run has seen (log entry 4) -/
  epoch : Nat
  deriving DecidableEq, Repr

/-- Why the machine stops. -/
inductive Fault where
  /-- Raised by the sequencer when PHASE is EXEC, P_PRE, P_ROUND or P_POST and OPR holds no command that has a row of
  R254 there. Safe: the spec gives no step, and no run from reset reaches it (DEDUCED; log entry 12). -/
  | noSequencerRow
  deriving DecidableEq, Repr

/-- Why an instruction is refused. -/
inductive Refusal where
  /-- Raised by an arm of `exec` whose instruction has no meaning yet. Safe. No arm does. -/
  | notModelled (mnemonic : String)
  deriving DecidableEq, Repr

/-- `STATUS` after reset: 0 (R48). -/
def Status.reset : Status where
  BUSY := false
  KEYED := false
  DONE := false
  ERR := false
  PADNV := false
  HERR := false
  ERRCODE := 0

/-- The machine right after reset (10_state R48, 70_reset_and_hazards R311, R312): every register, latch, table and
counter 0, `PHASE = IDLE`, the buffers with nothing listed. The model's own fields: log entries 3, 4, 5, 6, 9. -/
def State.reset : State where
  A := 0
  B := 0
  X := 0
  Y := 0
  CV0 := 0
  CV1 := 0
  KA := 0
  KB := 0
  WSEL := .w16
  R := 0
  KLEN := 0
  S := Vector.replicate 512 0
  KEY := Vector.replicate 255 0
  L := Vector.replicate 128 0
  HBUF := List.replicate Platform.default.HLEN 0
  PHASE := .IDLE
  OPR := 0
  RC := 0
  BI := 0
  KI := 0
  KJ := 0
  KN := 0
  HC := 0
  STATUS := Status.reset
  PWD_LEN := 0
  IN_LEN := 0
  OUT_LEN := 0
  PWD := []
  IN := []
  OUT := []
  platform := Platform.default
  turns := []
  readData := 0
  rngAnswers := []
  drawn := 0
  epoch := 0

end Sys2Proof.Machine
end

