-- ==== Sys2Proof/Machine/Ops.lean ====
section
/-! DEFINITION. The named operations over the state: buffer bytes, tables, the collaborators, the acceptance and the two
ends of a command. Ending with an error is the FCE's taking of an exception (spec 60_exceptions R288); its return is
the next acceptance (R289). -/

namespace Sys2Proof.Machine

/-- The byte stored for an offset, if one was written. -/
def Memory.get? : Memory → Nat → Option Byte
  | [], _ => none
  | (a, x) :: m, off => if a = off then some x else Memory.get? m off

/-- Store one byte, keeping the addresses strictly rising. -/
def Memory.put : Memory → Nat → Byte → Memory
  | [], off, x => [(off, x)]
  | (a, y) :: m, off, x =>
    if off < a then (off, x) :: (a, y) :: m
    else if off = a then (off, x) :: m
    else (a, y) :: Memory.put m off x

/-- Store bytes at consecutive offsets, in increasing offset order (20_memory R65). -/
def Memory.putBytes : Memory → Nat → List Byte → Memory
  | m, _, [] => m
  | m, off, x :: xs => Memory.putBytes (Memory.put m off x) (off + 1) xs

/-- `OUT_MAX = IN_MAX + 32` (00_scope R8). -/
def outMax (p : Platform) : Nat := p.IN_MAX + 32

/-- The capacity of a buffer in bytes (R8). -/
def capacity (p : Platform) : Buf → Nat
  | .password => p.PWD_MAX
  | .input => p.IN_MAX
  | .output => outMax p

/-- The magic constant `P_w` (00_scope R9). -/
def seedP (p : Platform) : Width → Word
  | .w16 => p.P16.setWidth 64
  | .w32 => p.P32.setWidth 64
  | .w64 => p.P64

/-- The magic constant `Q_w` (R9). -/
def seedQ (p : Platform) : Width → Word
  | .w16 => p.Q16.setWidth 64
  | .w32 => p.Q32.setWidth 64
  | .w64 => p.Q64

/-- The listed answer to a message, if there is one. -/
def lookupHash : List (List Byte × List Byte) → List Byte → Option (List Byte)
  | [], _ => none
  | (m, h) :: rest, message => if m = message then some h else lookupHash rest message

/-- `HASH(x)`: exactly `HLEN` bytes, depending on the message alone (R10). A listed answer is brought to `HLEN` bytes;
an unlisted message has free bytes (log entry 2). -/
def hash (p : Platform) (message : List Byte) : List Byte :=
  match lookupHash p.hashKnown message with
  | some h => (h ++ List.replicate p.HLEN 0).take p.HLEN
  | none => (List.range p.HLEN).map (Config.hashByte p.HLEN message)

/-- The contents of a buffer. -/
def State.buffer (s : State) : Buf → Memory
  | .password => s.PWD
  | .input => s.IN
  | .output => s.OUT

/-- Replace the contents of a buffer. -/
def State.setBuffer (s : State) (b : Buf) (m : Memory) : State :=
  match b with
  | .password => { s with PWD := m }
  | .input => { s with IN := m }
  | .output => { s with OUT := m }

/-- The byte at an offset of a buffer; one not written since reset is a free value (70_reset_and_hazards R312). -/
def byteAt (s : State) (b : Buf) (off : Nat) : Byte :=
  match Memory.get? (s.buffer b) off with
  | some x => x
  | none => Config.powerOnByte s.epoch b off

/-- `MemRead(space, off, n)`, lowest offset first (00_scope R15). -/
def memRead (s : State) (b : Buf) (off n : Nat) : List Byte :=
  (List.range n).map fun i => byteAt s b (off + i)

/-- `MemWrite(space, off, n, bytes)` (00_scope R15). -/
def memWrite (b : Buf) (off : Nat) (bytes : List Byte) (s : State) : State :=
  s.setBuffer b (Memory.putBytes (s.buffer b) off bytes)

/-- Entry `i` of an internal table; the rules read entries below the capacity only (log entry 18). -/
def tableGet {α : Type} {n : Nat} (t : Vector α n) (i : Nat) (outside : α) : α := t[i]?.getD outside

/-- Write consecutive entries of an internal table, from entry `i` on. -/
def tableFill {α : Type} {n : Nat} (t : Vector α n) (i : Nat) : List α → Vector α n
  | [] => t
  | x :: xs => tableFill (t.setIfInBounds i x) (i + 1) xs

/-- `Rng()`: the answer waiting at the port, else a fresh free draw (00_scope R11, log entry 3). -/
def rngValue (s : State) : BitVec 64 :=
  match s.rngAnswers with
  | [] => Config.draw s.drawn
  | x :: _ => x

/-- The state after one request to the RNG collaborator. -/
def rngAdvance (s : State) : State :=
  match s.rngAnswers with
  | [] => { s with drawn := s.drawn + 1 }
  | _ :: rest => { s with rngAnswers := rest }

/-- Acceptance of a command word by an idle FCE (45_system R250, first branch): DONE, ERR, ERRCODE and PADNV are
cleared, so this is also the return from an error (60_exceptions R289). -/
def accept (v : BitVec 32) (s : State) : State :=
  { s with
    OPR := v
    PHASE := .DECODE
    STATUS := { s.STATUS with BUSY := true, DONE := false, ERR := false, ERRCODE := 0, PADNV := false } }

/-- Successful end of a command (45_system R252). -/
def okEnd (s : State) : State :=
  { s with PHASE := .IDLE, STATUS := { s.STATUS with BUSY := false, DONE := true } }

/-- The number of an error kind (60_exceptions R280). -/
def errNumber : ErrCode → BitVec 4
  | .E_ILLCMD => 1
  | .E_STATE => 2
  | .E_CONFIG => 3
  | .E_RANGE => 4
  | .E_CTLEN => 5

/-- Error end of a command, the FCE's taking of an exception: four STATUS fields and PHASE change, and no other state
(45_system R253, 60_exceptions R288). -/
def errorEnd (e : ErrCode) (s : State) : State :=
  { s with
    PHASE := .IDLE
    STATUS := { s.STATUS with BUSY := false, DONE := true, ERR := true, ERRCODE := errNumber e } }

/-- A refused host access sets the sticky flag and changes nothing else (60_exceptions R294). -/
def refuseAccess (s : State) : State := { s with STATUS := { s.STATUS with HERR := true } }

/-- A command in one piece: the check of the DECODE step, then either the error end or the command's pseudocode and
the successful end (45_system R251 to R253, R255). -/
def finish (failed : Option ErrCode) (body : State → State) (s : State) :
    Host.Outcome State Fault Refusal :=
  match failed with
  | some e => .next (errorEnd e s)
  | none => .next (okEnd (body s))

end Sys2Proof.Machine
end

