-- ==== Sys2Proof/Machine/Operands.lean ====
section
/-! DEFINITION. Every operand form: the derived quantities of the latches, the words of the register pair, the block of
a buffer at a byte offset, and the blocks of the padded message (spec 00_scope R14, 10_state R21, 20_memory R63, R73,
R74, 44_cbc R226). -/

namespace Sys2Proof.Machine

/-- `t = 2*r + 2`, the length of S (R14). -/
def subkeyCount (s : State) : Nat := 2 * s.R.toNat + 2

/-- `c = ceil(klen / wb)`, the length of L (R14). -/
def keyWordCount (s : State) : Nat := ceilDiv s.KLEN.toNat (wordBytes s.WSEL)

/-- Subkey `S[i]`. -/
def subkey (s : State) (i : Nat) : Word := tableGet s.S i 0

/-- `A AND mask` (10_state R21). -/
def wordA (s : State) : Word := toWord s.WSEL s.A

/-- `B AND mask` (10_state R21). -/
def wordB (s : State) : Word := toWord s.WSEL s.B

/-- `LoadPair(space, off)` (20_memory R73). -/
def loadPair (s : State) (b : Buf) (off : Nat) : Word × Word :=
  pairOfBytes s.WSEL (memRead s b off (blockSize s.WSEL))

/-- `StorePair(OUT, off, v0, v1)` (20_memory R74); OUT is the only buffer a command writes (10_state R42 to R44). -/
def storePair (off : Nat) (v0 v1 : Word) (s : State) : State :=
  memWrite .output off (bytesOfPair s.WSEL v0 v1) s

/-- `n = bs - (len mod bs)`, the pad length of a message of `len` bytes (43_padding R200). -/
def padLength (w : Width) (len : Nat) : Nat := blockSize w - len % blockSize w

/-- `PaddedByte(i)` of the message in IN (44_cbc R226). -/
def paddedByte (s : State) (i : Nat) : Byte :=
  if i < s.IN_LEN.toNat then byteAt s .input i
  else BitVec.ofNat 8 (padLength s.WSEL s.IN_LEN.toNat)

/-- `LoadPaddedPair(k)`, block `k` of the padded message (44_cbc R226). -/
def loadPaddedPair (s : State) (k : Nat) : Word × Word :=
  pairOfBytes s.WSEL
    ((List.range (blockSize s.WSEL)).map fun i => paddedByte s (k * blockSize s.WSEL + i))

/-- `N` of ENC: the number of blocks of the padded message (44_cbc R220). -/
def encBlocks (s : State) : Nat :=
  (s.IN_LEN.toNat + padLength s.WSEL s.IN_LEN.toNat) / blockSize s.WSEL

/-- `N` of DEC: the number of data blocks (44_cbc R221). -/
def decBlocks (s : State) : Nat := s.IN_LEN.toNat / blockSize s.WSEL - 1

end Sys2Proof.Machine
end

