-- ==== Sys2Proof/Syntax.lean ====
section
/-! DEFINITION. The twelve commands of the FCE command set version 1 as syntax (spec 30_encoding R90 to R95). -/

namespace Sys2Proof

/-- A command, one constructor per row of the opcode table. Operands are the unsigned numbers of R94. -/
inductive Instr where
  /-- INIT, format K: width selector, round count, key length in bytes (R92) -/
  | init (wsel rounds klen : Nat)
  | enc
  | dec
  | encp
  | decp
  | pad
  | unpad
  | rotl
  | rotr
  /-- LDP, format O: byte offset into IN (R93) -/
  | ldp (off : Nat)
  /-- STP, format O: byte offset into OUT (R93) -/
  | stp (off : Nat)
  | clr
  deriving DecidableEq, Repr

end Sys2Proof
end

