-- ==== Sys2Proof/Machine/Flags.lean ====
section
/-! DEFINITION. Every flag computation: the STATUS and CFG words the host reads, and the checks of each command in
priority order (spec 10_state R31, R38, 44_cbc R223, 60_exceptions R281 to R287). -/

namespace Sys2Proof.Machine

/-- A flag at a bit position of a register word. -/
def flagBit (f : Bool) (pos : Nat) : BitVec 32 := if f then BitVec.ofNat 32 (2 ^ pos) else 0

/-- The STATUS register as the host reads it; reserved bits are 0 (R31). -/
def statusWord (t : Status) : BitVec 32 :=
  flagBit t.BUSY 0 ||| flagBit t.KEYED 1 ||| flagBit t.DONE 2 ||| flagBit t.ERR 3 ||| flagBit t.PADNV 4 |||
    flagBit t.HERR 5 ||| (t.ERRCODE.setWidth 32 <<< 8)

/-- The CFG view: WSEL in bits 5:4, ROUNDS in 15:8, KLEN in 23:16, the others 0 (R38). -/
def cfgWord (s : State) : BitVec 32 :=
  ((selOfWidth s.WSEL).setWidth 32 <<< 4) ||| (s.R.setWidth 32 <<< 8) ||| (s.KLEN.setWidth 32 <<< 16)

/-- `ValidCtLen(len)` (44_cbc R223). -/
def validCtLen (w : Width) (len : Nat) : Bool :=
  decide (len ≥ blockSize w) && decide ((len - blockSize w) % blockSize w = 0) &&
    decide (len - blockSize w ≥ blockSize w)

/-- The first of the conditions that holds, with its error (R287). -/
def firstError : List (Bool × ErrCode) → Option ErrCode
  | [] => none
  | (failed, e) :: rest => if failed then some e else firstError rest

/-- `E_STATE` of a data command: `KEYED = 0` (R282). -/
def notKeyed (s : State) : Bool := !s.STATUS.KEYED

/-- `E_RANGE` of ENC, DEC, PAD, UNPAD: `IN_LEN > IN_MAX` (R284). -/
def inLenTooLong (s : State) : Bool := decide (s.IN_LEN.toNat > s.platform.IN_MAX)

/-- The checks of INIT after `E_ILLCMD` (41_keyschedule R155). -/
def checkInit (wsel klen : Nat) (s : State) : Option ErrCode :=
  firstError [(s.STATUS.KEYED, .E_STATE),
    ((widthOfSel wsel).isNone || decide (klen = 0), .E_CONFIG),
    (decide (s.PWD_LEN.toNat > s.platform.PWD_MAX), .E_RANGE)]

/-- The check of ENCP, DECP, ROTL, ROTR after `E_ILLCMD` (R287). -/
def checkKeyed (s : State) : Option ErrCode := firstError [(notKeyed s, .E_STATE)]

/-- The checks of ENC, PAD, UNPAD after `E_ILLCMD` (R287). -/
def checkMessage (s : State) : Option ErrCode :=
  firstError [(notKeyed s, .E_STATE), (inLenTooLong s, .E_RANGE)]

/-- The checks of DEC after `E_ILLCMD` (R287, 44_cbc R221). -/
def checkDec (s : State) : Option ErrCode :=
  firstError [(notKeyed s, .E_STATE), (inLenTooLong s, .E_RANGE),
    (!validCtLen s.WSEL s.IN_LEN.toNat, .E_CTLEN)]

/-- The checks of LDP after `E_ILLCMD` (40_wordcodec R128). -/
def checkLdp (off : Nat) (s : State) : Option ErrCode :=
  firstError [(notKeyed s, .E_STATE),
    (inLenTooLong s || decide (off + blockSize s.WSEL > s.IN_LEN.toNat), .E_RANGE)]

/-- The checks of STP after `E_ILLCMD` (40_wordcodec R129). -/
def checkStp (off : Nat) (s : State) : Option ErrCode :=
  firstError [(notKeyed s, .E_STATE),
    (decide (off + blockSize s.WSEL > outMax s.platform), .E_RANGE)]

/-- The checks the DECODE step makes of a decoded command, in order (45_system R251, 60_exceptions R287). -/
def check (i : Instr) (s : State) : Option ErrCode :=
  match i with
  | .init wsel _ klen => checkInit wsel klen s
  | .enc => checkMessage s
  | .dec => checkDec s
  | .encp => checkKeyed s
  | .decp => checkKeyed s
  | .pad => checkMessage s
  | .unpad => checkMessage s
  | .rotl => checkKeyed s
  | .rotr => checkKeyed s
  | .ldp off => checkLdp off s
  | .stp off => checkStp off s
  | .clr => none

end Sys2Proof.Machine
end

