-- ==== Sys2Proof/Machine/BlockCipher.lean ====
section
/-! DEFINITION. BlockCipherCore family: encryptPair, decryptPair, ENCP, DECP (spec 42_blockcipher R180 to R185). -/

namespace Sys2Proof.Machine

/-- The two lines of encryptPair's loop body, with the subkeys `S[2*RC]` and `S[2*RC+1]` (R180): the second line sees
the X the first has just written. -/
def encLines (w : Width) (k0 k1 : Word) (p : Word × Word) : Word × Word :=
  let x := wordAdd w (rotl w (p.1 ^^^ p.2) p.2) k0
  (x, wordAdd w (rotl w (p.2 ^^^ x) x) k1)

/-- The two lines of decryptPair's loop body (R181). -/
def decLines (w : Width) (k0 k1 : Word) (p : Word × Word) : Word × Word :=
  let y := rotr w (wordSub w p.2 k1) p.1 ^^^ p.1
  (rotr w (wordSub w p.1 k0) y ^^^ y, y)

/-- Enc round `rc` with the subkeys of the state. -/
def encRound (s : State) (rc : Nat) (p : Word × Word) : Word × Word :=
  encLines s.WSEL (subkey s (2 * rc)) (subkey s (2 * rc + 1)) p

/-- Dec un-round `rc` with the subkeys of the state. -/
def decRound (s : State) (rc : Nat) (p : Word × Word) : Word × Word :=
  decLines s.WSEL (subkey s (2 * rc)) (subkey s (2 * rc + 1)) p

/-- Rounds 1 to `r`, in that order. -/
def encRounds (s : State) : Nat → Word × Word → Word × Word
  | 0, p => p
  | r + 1, p => encRound s (r + 1) (encRounds s r p)

/-- Un-rounds `r` down to 1, in that order. -/
def decRounds (s : State) : Nat → Word × Word → Word × Word
  | 0, p => p
  | r + 1, p => decRounds s r (decRound s (r + 1) p)

/-- The initial additions of `S[0]` and `S[1]` (R180). -/
def whiten (s : State) (p : Word × Word) : Word × Word :=
  (wordAdd s.WSEL p.1 (subkey s 0), wordAdd s.WSEL p.2 (subkey s 1))

/-- The final subtractions of `S[1]` and `S[0]` (R181). -/
def unwhiten (s : State) (p : Word × Word) : Word × Word :=
  (wordSub s.WSEL p.1 (subkey s 0), wordSub s.WSEL p.2 (subkey s 1))

/-- `encryptPair(a, b)` under the subkeys, width and round count of the state (R180). -/
def encryptPair (s : State) (p : Word × Word) : Word × Word := encRounds s s.R.toNat (whiten s p)

/-- `decryptPair(a, b)` (R181). -/
def decryptPair (s : State) (p : Word × Word) : Word × Word := unwhiten s (decRounds s s.R.toNat p)

/-- The round counter after a whole encryptPair: the loop ends at `R + 1` (45_system R254; log entry 13). -/
def rcAfterEnc (s : State) : BitVec 9 := BitVec.ofNat 9 (s.R.toNat + 1)

/-- ENCP's pseudocode (R183). -/
def encpBody (s : State) : State :=
  let p := encryptPair s (wordA s, wordB s)
  { s with X := p.1, Y := p.2, A := p.1, B := p.2, RC := rcAfterEnc s }

/-- **ENCP**: encrypt the pair in A, B, unchained (R183). -/
def execEncp (s : State) : Host.Outcome State Fault Refusal := finish (checkKeyed s) encpBody s

/-- DECP's pseudocode (R184). -/
def decpBody (s : State) : State :=
  let p := decryptPair s (wordA s, wordB s)
  { s with X := p.1, Y := p.2, A := p.1, B := p.2, RC := 0 }

/-- **DECP**: decrypt the pair in A, B, unchained (R184). -/
def execDecp (s : State) : Host.Outcome State Fault Refusal := finish (checkKeyed s) decpBody s

end Sys2Proof.Machine
end

