-- ==== Sys2Proof/Machine/Padding.lean ====
section
/-! DEFINITION. PaddingCodec family: pad, unpad, PAD, UNPAD (spec 43_padding R200 to R203). -/

namespace Sys2Proof.Machine

/-- `pad(b)` (R200). -/
def pad (w : Width) (b : List Byte) : List Byte :=
  b ++ List.replicate (padLength w b.length) (BitVec.ofNat 8 (padLength w b.length))

/-- `unpad(b)`: the bytes, and the bit "not valid" (R201). -/
def unpad (b : List Byte) : List Byte × Bool :=
  match b.getLast? with
  | none => (b, true)
  | some n =>
    if n = 0 then (b, true)
    else if n.toNat > b.length then (b, true)
    else if (b.drop (b.length - n.toNat)).all (fun x => x == n) then
      (b.take (b.length - n.toNat), false)
    else (b, true)

/-- Set OUT_LEN. -/
def setOutLen (n : Nat) (s : State) : State := { s with OUT_LEN := BitVec.ofNat 32 n }

/-- Set the flag PADNV. -/
def setPadnv (nv : Bool) (s : State) : State := { s with STATUS := { s.STATUS with PADNV := nv } }

/-- PAD's pseudocode (R202). -/
def padBody (s : State) : State :=
  let padded := pad s.WSEL (memRead s .input 0 s.IN_LEN.toNat)
  setOutLen padded.length (memWrite .output 0 padded s)

/-- **PAD**: pad the bytes of IN into OUT (R202). -/
def execPad (s : State) : Host.Outcome State Fault Refusal := finish (checkMessage s) padBody s

/-- UNPAD's pseudocode: the whole input is copied, stripped bytes included (R203). -/
def unpadBody (s : State) : State :=
  let message := memRead s .input 0 s.IN_LEN.toNat
  let u := unpad message
  setPadnv u.2 (setOutLen u.1.length (memWrite .output 0 message s))

/-- **UNPAD**: strip the padding of the bytes of IN into OUT (R203). -/
def execUnpad (s : State) : Host.Outcome State Fault Refusal := finish (checkMessage s) unpadBody s

end Sys2Proof.Machine
end

