-- ==== Sys2Proof/Machine/Cbc.lean ====
section
/-! DEFINITION. CbcModeDriver family: ENC, DEC (spec 44_cbc R220, R221). -/

namespace Sys2Proof.Machine

/-- Set the working pair. -/
def setXY (p : Word × Word) (s : State) : State := { s with X := p.1, Y := p.2 }

/-- Set the chaining value. -/
def setCV (p : Word × Word) (s : State) : State := { s with CV0 := p.1, CV1 := p.2 }

/-- The XOR of two word pairs. -/
def xorPair (p q : Word × Word) : Word × Word := (p.1 ^^^ q.1, p.2 ^^^ q.2)

/-- Draw the clear IV pair into the chaining value, first word first (R220). -/
def drawIv (s : State) : State :=
  let iv0 := toWord s.WSEL (rngValue s)
  let s1 := rngAdvance s
  let iv1 := toWord s.WSEL (rngValue s1)
  setCV (iv0, iv1) (rngAdvance s1)

/-- Encrypt the clear IV pair and emit it as block 0 (R220). -/
def emitIv (s : State) : State :=
  let p := encryptPair s (s.CV0, s.CV1)
  { storePair 0 p.1 p.2 (setXY p s) with BI := 0 }

/-- One pass of ENC's block loop: data block BI into block `BI + 1` of OUT (R220). -/
def encBlock (s : State) : State :=
  let p := encryptPair s (xorPair (loadPaddedPair s s.BI.toNat) (s.CV0, s.CV1))
  { setCV p (storePair ((s.BI.toNat + 1) * blockSize s.WSEL) p.1 p.2 (setXY p s)) with BI := s.BI + 1 }

/-- ENC's pseudocode (R220). -/
def encBody (s : State) : State :=
  let n := encBlocks s
  { setOutLen ((n + 1) * blockSize s.WSEL) (encBlock^[n] (emitIv (drawIv s))) with RC := rcAfterEnc s }

/-- **ENC**: encrypt the bytes of IN into OUT (R220). -/
def execEnc (s : State) : Host.Outcome State Fault Refusal := finish (checkMessage s) encBody s

/-- Recover the clear IV pair from block 0 of IN (R221). -/
def recoverIv (s : State) : State :=
  let p := decryptPair s (loadPair s .input 0)
  { setCV p (setXY p s) with BI := 1 }

/-- One pass of DEC's block loop: block BI of IN into block `BI - 1` of OUT; the ciphertext pair just read becomes the
chaining value (R221). -/
def decBlock (s : State) : State :=
  let c := loadPair s .input (s.BI.toNat * blockSize s.WSEL)
  let p := decryptPair s c
  let d := xorPair p (s.CV0, s.CV1)
  { setCV c (storePair ((s.BI.toNat - 1) * blockSize s.WSEL) d.1 d.2 (setXY p s)) with BI := s.BI + 1 }

/-- Strip the padding of the first `m` bytes of OUT (R221). -/
def stripOut (m : Nat) (s : State) : State :=
  let u := unpad (memRead s .output 0 m)
  setPadnv u.2 (setOutLen u.1.length s)

/-- DEC's pseudocode (R221). -/
def decBody (s : State) : State :=
  let n := decBlocks s
  { stripOut (n * blockSize s.WSEL) (decBlock^[n] (recoverIv s)) with RC := 0 }

/-- **DEC**: decrypt the bytes of IN into OUT (R221). -/
def execDec (s : State) : Host.Outcome State Fault Refusal := finish (checkDec s) decBody s

end Sys2Proof.Machine
end

