-- ==== Sys2Proof/Machine/KeySchedule.lean ====
section
/-! DEFINITION. KeyScheduleBuilder family: key derivation, splitting, seeding, mixing, INIT (spec 41_keyschedule R150
to R155). -/

namespace Sys2Proof.Machine

/-- The number of hash requests of a key derivation, `m + 1 = ceil(klen / HLEN)` (R150). -/
def hashCount (p : Platform) (klen : Nat) : Nat := ceilDiv klen p.HLEN

/-- One re-hash: the pair is the latest chunk and the material, the newer chunk goes in front (R150). -/
def rehash (p : Platform) (hm : List Byte × List Byte) : List Byte × List Byte :=
  let h := hash p hm.1
  (h, h ++ hm.2)

/-- The latest chunk and the material after `m` re-hashes (R150). -/
def stretch (p : Platform) (pwd : List Byte) (m : Nat) : List Byte × List Byte :=
  (rehash p)^[m] (hash p pwd, hash p pwd)

/-- `KDF(pwd, klen)`: the trailing `klen` bytes of the material (R150; the reading of log entry 17). -/
def kdf (p : Platform) (pwd : List Byte) (klen : Nat) : List Byte :=
  let mat := (stretch p pwd (hashCount p klen - 1)).2
  mat.drop (mat.length - klen)

/-- Key word `j`: bytes `KEY[j*wb ..]`, zero-padded after the last key byte (R151). -/
def keyWord (s : State) (j : Nat) : Word :=
  bytesToWord ((List.range (wordBytes s.WSEL)).map fun q =>
    let i := j * wordBytes s.WSEL + q
    if i < s.KLEN.toNat then tableGet s.KEY i 0 else 0)

/-- Rule R151: split the key into L. -/
def splitKey (s : State) : State :=
  { s with L := tableFill s.L 0 ((List.range (keyWordCount s)).map (keyWord s)) }

/-- `t` seed words from `x` on, each the one before plus `Q_w` (R152). -/
def seedWords (w : Width) (q : Word) : Nat → Word → List Word
  | 0, _ => []
  | t + 1, x => x :: seedWords w q t (wordAdd w x q)

/-- Rule R152: seed S. -/
def seedTable (s : State) : State :=
  { s with
    S := tableFill s.S 0 (seedWords s.WSEL (seedQ s.platform s.WSEL) (subkeyCount s) (seedP s.platform s.WSEL)) }

/-- `3 * max(t, c)`, the number of mixing iterations (R153). -/
def mixCount (s : State) : Nat := 3 * max (subkeyCount s) (keyWordCount s)

/-- The assignments before the mixing loop (R153). -/
def startMix (s : State) : State :=
  { s with KA := 0, KB := 0, KI := 0, KJ := 0, KN := BitVec.ofNat 11 (mixCount s) }

/-- One iteration of the mixing loop: the S half first, then the L half with the new `a` and the old `b` (R153). -/
def mixStep (s : State) : State :=
  let w := s.WSEL
  let a := rotl w (toWord w (tableGet s.S s.KI.toNat 0 + s.KA + s.KB)) 3
  let b := rotl w (toWord w (tableGet s.L s.KJ.toNat 0 + a + s.KB)) (a + s.KB)
  { s with
    S := s.S.setIfInBounds s.KI.toNat a
    KA := a
    KI := BitVec.ofNat 9 ((s.KI.toNat + 1) % subkeyCount s)
    L := s.L.setIfInBounds s.KJ.toNat b
    KB := b
    KJ := BitVec.ofNat 7 ((s.KJ.toNat + 1) % keyWordCount s)
    KN := s.KN - 1 }

/-- Latch the construction parameters (45_system R251). -/
def latchConfig (w : Width) (rounds klen : Nat) (s : State) : State :=
  { s with WSEL := w, R := BitVec.ofNat 8 rounds, KLEN := BitVec.ofNat 8 klen }

/-- The password, `PWD[0 .. PWD_LEN-1]`. -/
def password (s : State) : List Byte := memRead s .password 0 s.PWD_LEN.toNat

/-- Derive the key into KEY; HBUF keeps the last answer and HC the number of answers (R150). -/
def deriveKey (s : State) : State :=
  let m := hashCount s.platform s.KLEN.toNat - 1
  { s with
    KEY := tableFill s.KEY 0 (kdf s.platform (password s) s.KLEN.toNat)
    HBUF := (stretch s.platform (password s) m).1
    HC := BitVec.ofNat 8 (m + 1) }

/-- The whole mixing loop (R153). -/
def mixTables (s : State) : State := mixStep^[mixCount s] (startMix s)

/-- Set the flag KEYED. -/
def setKeyed (s : State) : State := { s with STATUS := { s.STATUS with KEYED := true } }

/-- INIT's pseudocode (R155). The checks have found the width. -/
def initBody (wsel rounds klen : Nat) (s : State) : State :=
  match widthOfSel wsel with
  | some w => setKeyed (mixTables (seedTable (splitKey (deriveKey (latchConfig w rounds klen s)))))
  | none => s

/-- **INIT w, r, klen**: construct the engine (R155). -/
def execInit (wsel rounds klen : Nat) (s : State) : Host.Outcome State Fault Refusal :=
  finish (checkInit wsel klen s) (initBody wsel rounds klen) s

end Sys2Proof.Machine
end

