-- ==== Sys2Proof/Machine/System.lean ====
section
/-! DEFINITION. System family: CLR (spec 45_system R256). -/

namespace Sys2Proof.Machine

/-- CLR's pseudocode (R256): PWD, IN, OUT, PWD_LEN, IN_LEN and HERR are kept. -/
def clrBody (s : State) : State :=
  { s with
    A := 0, B := 0, X := 0, Y := 0, CV0 := 0, CV1 := 0, KA := 0, KB := 0
    WSEL := .w16, R := 0, KLEN := 0
    S := Vector.replicate 512 0
    L := Vector.replicate 128 0
    KEY := Vector.replicate 255 0
    HBUF := List.replicate s.platform.HLEN 0
    RC := 0, BI := 0, KI := 0, KJ := 0, KN := 0, HC := 0
    OUT_LEN := 0
    STATUS := { s.STATUS with KEYED := false } }

/-- **CLR**: end the engine instance and wipe it (R256). -/
def execClr (s : State) : Host.Outcome State Fault Refusal := finish none clrBody s

end Sys2Proof.Machine
end

