-- ==== Sys2Proof/Machine/WordCodec.lean ====
section
/-! DEFINITION. WordCodec family: ROTL, ROTR, LDP, STP (spec 40_wordcodec R126 to R129). A body is the command's
pseudocode; the meaning adds the checks and the end. -/

namespace Sys2Proof.Machine

/-- ROTL's pseudocode (R126). -/
def rotlBody (s : State) : State := { s with A := rotl s.WSEL (wordA s) s.B }

/-- **ROTL**: rotate A left by B (R126). -/
def execRotl (s : State) : Host.Outcome State Fault Refusal := finish (checkKeyed s) rotlBody s

/-- ROTR's pseudocode (R127). -/
def rotrBody (s : State) : State := { s with A := rotr s.WSEL (wordA s) s.B }

/-- **ROTR**: rotate A right by B (R127). -/
def execRotr (s : State) : Host.Outcome State Fault Refusal := finish (checkKeyed s) rotrBody s

/-- LDP's pseudocode (R128). -/
def ldpBody (off : Nat) (s : State) : State :=
  let p := loadPair s .input off
  { s with A := p.1, B := p.2 }

/-- **LDP off**: load a pair from IN (R128). -/
def execLdp (off : Nat) (s : State) : Host.Outcome State Fault Refusal :=
  finish (checkLdp off s) (ldpBody off) s

/-- STP's pseudocode (R129). -/
def stpBody (off : Nat) (s : State) : State := storePair off (wordA s) (wordB s) s

/-- **STP off**: store the pair to OUT (R129). -/
def execStp (off : Nat) (s : State) : Host.Outcome State Fault Refusal :=
  finish (checkStp off s) (stpBody off) s

end Sys2Proof.Machine
end

