-- ==== Sys2Proof/Machine/Dispatch.lean ====
section
/-! DEFINITION. One arm per command, each one call of its meaning. -/

namespace Sys2Proof.Machine

/-- The meaning of a command whose word has been accepted (spec 45_system R251 to R255). -/
def exec (i : Instr) (s : State) : Host.Outcome State Fault Refusal :=
  match i with
  | .init wsel rounds klen => Sys2Proof.Machine.execInit wsel rounds klen s
  | .enc => Sys2Proof.Machine.execEnc s
  | .dec => Sys2Proof.Machine.execDec s
  | .encp => Sys2Proof.Machine.execEncp s
  | .decp => Sys2Proof.Machine.execDecp s
  | .pad => Sys2Proof.Machine.execPad s
  | .unpad => Sys2Proof.Machine.execUnpad s
  | .rotl => Sys2Proof.Machine.execRotl s
  | .rotr => Sys2Proof.Machine.execRotr s
  | .ldp off => Sys2Proof.Machine.execLdp off s
  | .stp off => Sys2Proof.Machine.execStp off s
  | .clr => Sys2Proof.Machine.execClr s

end Sys2Proof.Machine
end

