-- ==== Sys2Proof/Machine/HostPort.lean ====
section
/-! DEFINITION. What a host access and the reset input do (spec 20_memory R66 to R68, 45_system R250, R257 to R259,
70_reset_and_hazards R310 to R312). -/

namespace Sys2Proof.Machine

/-- The port answers a value. -/
def answer (v : BitVec 64) (s : State) : State := { s with readData := v }

/-- A refused read: 0 is returned and HERR set (20_memory R68). -/
def refuseRead (s : State) : State := answer 0 (refuseAccess s)

/-- The value of a readable register other than STATUS: CFG, PWD_LEN, IN_LEN, OUT_LEN, A, B (45_system R257). -/
def regValue (s : State) : Nat → Option (BitVec 64)
  | 2 => some ((cfgWord s).setWidth 64)
  | 3 => some (s.PWD_LEN.setWidth 64)
  | 4 => some (s.IN_LEN.setWidth 64)
  | 5 => some (s.OUT_LEN.setWidth 64)
  | 6 => some s.A
  | 7 => some s.B
  | _ => none

/-- Host register read of index `k` (45_system R257). -/
def readReg (k : Nat) (s : State) : State :=
  if k = 1 then answer ((statusWord s.STATUS).setWidth 64) s
  else if s.STATUS.BUSY then refuseRead s
  else
    match regValue s k with
    | some v => answer v s
    | none => refuseRead s

/-- A write to CMD: accepted when idle, refused while a command runs (45_system R250). -/
def writeCmd (v : BitVec 32) (s : State) : State :=
  if s.STATUS.BUSY then refuseAccess s else accept v s

/-- A write to STATUS clears HERR when bit 5 is 1 and changes nothing else (10_state R31). -/
def writeStatus (v : BitVec 32) (s : State) : State :=
  if v.getLsbD 5 then { s with STATUS := { s.STATUS with HERR := false } } else s

/-- Host register write of `v` to index `k` (45_system R258). -/
def writeReg (k : Nat) (v : BitVec 64) (s : State) : State :=
  match k with
  | 0 => writeCmd (v.setWidth 32) s
  | 1 => writeStatus (v.setWidth 32) s
  | 3 => if s.STATUS.BUSY then refuseAccess s else { s with PWD_LEN := v.setWidth 32 }
  | 4 => if s.STATUS.BUSY then refuseAccess s else { s with IN_LEN := v.setWidth 32 }
  | 6 => if s.STATUS.BUSY then refuseAccess s else { s with A := v }
  | 7 => if s.STATUS.BUSY then refuseAccess s else { s with B := v }
  | _ => refuseAccess s

/-- The host may read IN and OUT, never PWD (45_system R259). -/
def hostReads : Buf → Bool
  | .password => false
  | .input => true
  | .output => true

/-- The host may write PWD and IN, never OUT (45_system R259). -/
def hostWrites : Buf → Bool
  | .password => true
  | .input => true
  | .output => false

/-- Host read of one byte (45_system R259). -/
def readByte (b : Buf) (off : Nat) (s : State) : State :=
  if s.STATUS.BUSY || !hostReads b || decide (capacity s.platform b ≤ off) then refuseRead s
  else answer ((byteAt s b off).setWidth 64) s

/-- Host write of one byte (45_system R259). -/
def writeByte (b : Buf) (off : Nat) (x : Byte) (s : State) : State :=
  if s.STATUS.BUSY || !hostWrites b || decide (capacity s.platform b ≤ off) then refuseAccess s
  else memWrite b off [x] s

/-- One host access. -/
def hostAccess (a : HostAccess) (s : State) : State :=
  match a with
  | .readReg k => readReg k s
  | .writeReg k v => writeReg k v s
  | .readByte b off => readByte b off s
  | .writeByte b off x => writeByte b off x s

/-- Reset is asserted: it takes effect at once, whatever PHASE is (R310), and leaves the state of R311; the buffers are
unspecified anew (R312). The platform, the events and answers still to come, and the port's last answer stay
(DESIGN CHOICE; log entry 14). -/
def resetInput (s : State) : State :=
  { State.reset with
    HBUF := List.replicate s.platform.HLEN 0
    platform := s.platform
    turns := s.turns
    readData := s.readData
    rngAnswers := s.rngAnswers
    drawn := s.drawn
    epoch := s.epoch + 1 }

end Sys2Proof.Machine
end

