-- ==== Sys2Proof/WellFormed.lean ====
section
/-! DEFINITION. Which command terms have an encoding: every operand within its field (spec 30_encoding R92, R93). -/

namespace Sys2Proof

/-- Every operand fits the field the format gives it: `WSEL` 2 bits, `ROUNDS` and `KLEN` 8 bits, `OFF` 24 bits.
`WSEL = 3` and `KLEN = 0` are encodings (R97): INIT rejects them when it runs. -/
def WellFormed : Instr → Bool
  | .init wsel rounds klen =>
      decide (wsel < 2 ^ 2) && decide (rounds < 2 ^ 8) && decide (klen < 2 ^ 8)
  | .ldp off => decide (off < 2 ^ 24)
  | .stp off => decide (off < 2 ^ 24)
  | .enc => true
  | .dec => true
  | .encp => true
  | .decp => true
  | .pad => true
  | .unpad => true
  | .rotl => true
  | .rotr => true
  | .clr => true

end Sys2Proof
end

