-- ==== Sys2Proof/Decode.lean ====
section
/-! DEFINITION. Decoding a command word, total and rejecting by name (spec 30_encoding R96, R101), and the encoder
written from the same formats (R91 to R95). -/

namespace Sys2Proof

/-- Why a command word is illegal (R96). -/
inductive Illegal where
  /-- `OPC` is 0x0, 0xD, 0xE or 0xF -/
  | reservedOpcode
  /-- a must-be-zero field of the format is not zero -/
  | nonzeroField
  deriving DecidableEq, Repr

/-- `v[hi:lo]`, the unsigned integer made of bits `hi` down to `lo` (R13). -/
def bitField (v : BitVec 32) (hi lo : Nat) : Nat :=
  v.toNat / 2 ^ lo % 2 ^ (hi + 1 - lo)

/-- Format Z: bits 31:4 must be 0 (R91). -/
def decodeZ (v : BitVec 32) (i : Instr) : Except Illegal Instr :=
  if bitField v 31 4 = 0 then .ok i else .error .nonzeroField

/-- Format K: bits 31:24 and 7:6 must be 0 (R92). -/
def decodeK (v : BitVec 32) : Except Illegal Instr :=
  if bitField v 31 24 = 0 ∧ bitField v 7 6 = 0 then
    .ok (.init (bitField v 5 4) (bitField v 15 8) (bitField v 23 16))
  else .error .nonzeroField

/-- Format O: bits 7:4 must be 0 (R93). -/
def decodeO (v : BitVec 32) (mk : Nat → Instr) : Except Illegal Instr :=
  if bitField v 7 4 = 0 then .ok (mk (bitField v 31 8)) else .error .nonzeroField

/-- The decoder: exactly one of the twelve commands with its fields, or illegal (R95, R101). -/
def decode (v : BitVec 32) : Except Illegal Instr :=
  match bitField v 3 0 with
  | 0x1 => decodeK v
  | 0x2 => decodeZ v .enc
  | 0x3 => decodeZ v .dec
  | 0x4 => decodeZ v .encp
  | 0x5 => decodeZ v .decp
  | 0x6 => decodeZ v .pad
  | 0x7 => decodeZ v .unpad
  | 0x8 => decodeZ v .rotl
  | 0x9 => decodeZ v .rotr
  | 0xA => decodeO v .ldp
  | 0xB => decodeO v .stp
  | 0xC => decodeZ v .clr
  | _ => .error .reservedOpcode

/-- The opcode of a command, bits 3:0 of its word (R95). -/
def opcode : Instr → Nat
  | .init _ _ _ => 0x1
  | .enc => 0x2
  | .dec => 0x3
  | .encp => 0x4
  | .decp => 0x5
  | .pad => 0x6
  | .unpad => 0x7
  | .rotl => 0x8
  | .rotr => 0x9
  | .ldp _ => 0xA
  | .stp _ => 0xB
  | .clr => 0xC

/-- The operand fields of a command, at their places in the word (R91 to R93); must-be-zero fields are 0. -/
def operandBits : Instr → Nat
  | .init wsel rounds klen => wsel * 2 ^ 4 + rounds * 2 ^ 8 + klen * 2 ^ 16
  | .ldp off => off * 2 ^ 8
  | .stp off => off * 2 ^ 8
  | .enc => 0
  | .dec => 0
  | .encp => 0
  | .decp => 0
  | .pad => 0
  | .unpad => 0
  | .rotl => 0
  | .rotr => 0
  | .clr => 0

/-- The command word of an instruction. -/
def encode (i : Instr) : BitVec 32 := BitVec.ofNat 32 (operandBits i + opcode i)

/-- The instruction the decoder reads from a word of the opcode table: every command is one 32-bit word (R90), bit 0
the least significant; bits at and above `nbits` are 0. -/
def decodeTableWord (nbits w : Nat) : Option Instr :=
  (decode (BitVec.ofNat 32 (w % 2 ^ nbits))).toOption

end Sys2Proof
end

