-- ==== Sys2Proof/Machine/Sequencer.lean ====
section
/-! DEFINITION. The sequencer: the DECODE step and one row of the table of spec 45_system R254 per phase. -/

namespace Sys2Proof.Machine

/-- The step goes to a phase. -/
def toPhase (p : Phase) (s : State) : State := { s with PHASE := p }

/-- The working pair. -/
def workPair (s : State) : Word × Word := (s.X, s.Y)

/-- The first work phase of a command whose checks have passed; INIT first latches its parameters and clears HC
(45_system R251, R254). -/
def firstWork (i : Instr) (s : State) : State :=
  match i with
  | .init wsel rounds klen =>
    match widthOfSel wsel with
    | some w => toPhase .K_HASH { latchConfig w rounds klen s with HC := 0 }
    | none => s
  | .enc => toPhase .E_IV s
  | .dec => toPhase .D_IVLOAD s
  | .encp => toPhase .P_PRE s
  | .decp => toPhase .P_PRE s
  | .pad => toPhase .EXEC s
  | .unpad => toPhase .EXEC s
  | .rotl => toPhase .EXEC s
  | .rotr => toPhase .EXEC s
  | .ldp _ => toPhase .EXEC s
  | .stp _ => toPhase .EXEC s
  | .clr => toPhase .EXEC s

/-- The DECODE step: decode OPR, make the checks, go on or end with the error (R251). -/
def decodeStep (s : State) : State :=
  match decode s.OPR with
  | .error _ => errorEnd .E_ILLCMD s
  | .ok i =>
    match check i s with
    | some e => errorEnd e s
    | none => firstWork i s

/-- The pseudocode of a single-step command; the others have no row in EXEC. -/
def singleStepBody (i : Instr) : Option (State → State) :=
  match i with
  | .rotl => some rotlBody
  | .rotr => some rotrBody
  | .ldp off => some (ldpBody off)
  | .stp off => some (stpBody off)
  | .pad => some padBody
  | .unpad => some unpadBody
  | .clr => some clrBody
  | .init _ _ _ => none
  | .enc => none
  | .dec => none
  | .encp => none
  | .decp => none

/-- Row EXEC: the whole pseudocode, then the end. -/
def execRow (s : State) : Host.Outcome State Fault Refusal :=
  match decode s.OPR with
  | .error _ => .fault .noSequencerRow
  | .ok i =>
    match singleStepBody i with
    | some body => .next (okEnd (body s))
    | none => .fault .noSequencerRow

/-- Store chunk `k` of the key material at its place in KEY: byte `i` of the chunk goes to
`klen - (k+1)*HLEN + i` when that is not negative (41_keyschedule R150). -/
def storeChunk (k : Nat) (h : List Byte) (s : State) : State :=
  let past := (k + 1) * s.platform.HLEN
  { s with KEY := tableFill s.KEY (s.KLEN.toNat - past) (h.drop (past - s.KLEN.toNat)) }

/-- Row K_HASH: one hash request. -/
def hashRow (s : State) : State :=
  let h := if s.HC = 0 then hash s.platform (password s) else hash s.platform s.HBUF
  let s1 := { storeChunk s.HC.toNat h s with HBUF := h, HC := s.HC + 1 }
  toPhase (if s1.HC.toNat < hashCount s.platform s.KLEN.toNat then .K_HASH else .K_SPLIT) s1

/-- Row K_SPLIT. -/
def splitRow (s : State) : State := toPhase .K_MIX (startMix (seedTable (splitKey s)))

/-- Row K_MIX: one mixing iteration; the one that brings KN to 0 also ends the command (90_conflicts C8). -/
def mixRow (s : State) : State :=
  let s1 := mixStep s
  if s1.KN = 0 then okEnd (setKeyed s1) else s1

/-- Row P_PRE. -/
def pairPreRow (s : State) : Host.Outcome State Fault Refusal :=
  match decode s.OPR with
  | .ok .encp => .next (toPhase .P_ROUND { setXY (whiten s (wordA s, wordB s)) s with RC := 1 })
  | .ok .decp => .next (toPhase .P_ROUND { setXY (wordA s, wordB s) s with RC := s.R.setWidth 9 })
  | _ => .fault .noSequencerRow

/-- An enc round phase: a round while `RC <= R`, else what the row does after the last. -/
def encRoundStep (after : State → State) (s : State) : State :=
  if s.RC.toNat ≤ s.R.toNat then
    { setXY (encRound s s.RC.toNat (workPair s)) s with RC := s.RC + 1 }
  else after s

/-- A dec un-round phase: an un-round while `RC >= 1`, else what the row does after the last. -/
def decRoundStep (after : State → State) (s : State) : State :=
  if 1 ≤ s.RC.toNat then
    { setXY (decRound s s.RC.toNat (workPair s)) s with RC := s.RC - 1 }
  else after s

/-- Row P_ROUND. -/
def pairRoundRow (s : State) : Host.Outcome State Fault Refusal :=
  match decode s.OPR with
  | .ok .encp => .next (encRoundStep (toPhase .P_POST) s)
  | .ok .decp => .next (decRoundStep (toPhase .P_POST) s)
  | _ => .fault .noSequencerRow

/-- The working pair goes to A, B. -/
def pairToAB (s : State) : State := { s with A := s.X, B := s.Y }

/-- Row P_POST. -/
def pairPostRow (s : State) : Host.Outcome State Fault Refusal :=
  match decode s.OPR with
  | .ok .encp => .next (okEnd (pairToAB s))
  | .ok .decp => .next (okEnd (pairToAB (setXY (unwhiten s (workPair s)) s)))
  | _ => .fault .noSequencerRow

/-- Row E_IV. -/
def ivRow (s : State) : State :=
  let s1 := drawIv s
  toPhase .E_IVROUND { setXY (whiten s1 (s1.CV0, s1.CV1)) s1 with RC := 1 }

/-- Row E_IVROUND. -/
def ivRoundRow (s : State) : State :=
  encRoundStep (fun s => toPhase .E_LOAD { storePair 0 s.X s.Y s with BI := 0 }) s

/-- Row E_LOAD. -/
def encLoadRow (s : State) : State :=
  toPhase .E_ROUND
    { setXY (whiten s (xorPair (loadPaddedPair s s.BI.toNat) (s.CV0, s.CV1))) s with RC := 1 }

/-- Row E_ROUND after the last round of a block. -/
def encBlockEnd (s : State) : State :=
  let s1 := { setCV (workPair s) (storePair ((s.BI.toNat + 1) * blockSize s.WSEL) s.X s.Y s) with BI := s.BI + 1 }
  if s1.BI.toNat < encBlocks s then toPhase .E_LOAD s1
  else okEnd (setOutLen ((encBlocks s + 1) * blockSize s.WSEL) s1)

/-- Row E_ROUND. -/
def encRoundRow (s : State) : State := encRoundStep encBlockEnd s

/-- Row D_IVLOAD. -/
def decIvLoadRow (s : State) : State :=
  toPhase .D_IVROUND { setXY (loadPair s .input 0) s with RC := s.R.setWidth 9 }

/-- Row D_IVROUND. -/
def decIvRoundRow (s : State) : State :=
  decRoundStep (fun s =>
    let p := unwhiten s (workPair s)
    toPhase .D_LOAD { setCV p (setXY p s) with BI := 1 }) s

/-- Row D_LOAD. -/
def decLoadRow (s : State) : State :=
  toPhase .D_ROUND
    { setXY (loadPair s .input (s.BI.toNat * blockSize s.WSEL)) s with RC := s.R.setWidth 9 }

/-- Row D_ROUND after the last un-round of a block; the ciphertext pair is read a second time. -/
def decBlockEnd (s : State) : State :=
  let p := unwhiten s (workPair s)
  let d := xorPair p (s.CV0, s.CV1)
  let s1 := storePair ((s.BI.toNat - 1) * blockSize s.WSEL) d.1 d.2 (setXY p s)
  let s2 := { setCV (loadPair s1 .input (s.BI.toNat * blockSize s.WSEL)) s1 with BI := s.BI + 1 }
  toPhase (if s2.BI.toNat ≤ decBlocks s then .D_LOAD else .D_UNPAD) s2

/-- Row D_ROUND. -/
def decRoundRow (s : State) : State := decRoundStep decBlockEnd s

/-- Row D_UNPAD. -/
def decUnpadRow (s : State) : State := okEnd (stripOut (decBlocks s * blockSize s.WSEL) s)

/-- One step of the sequencer, the row chosen by PHASE (R254). In IDLE no step is enabled: the FCE waits. -/
def seqStep (s : State) : Host.Outcome State Fault Refusal :=
  match s.PHASE with
  | .IDLE => .next s
  | .DECODE => .next (decodeStep s)
  | .EXEC => execRow s
  | .K_HASH => .next (hashRow s)
  | .K_SPLIT => .next (splitRow s)
  | .K_MIX => .next (mixRow s)
  | .P_PRE => pairPreRow s
  | .P_ROUND => pairRoundRow s
  | .P_POST => pairPostRow s
  | .E_IV => .next (ivRow s)
  | .E_IVROUND => .next (ivRoundRow s)
  | .E_LOAD => .next (encLoadRow s)
  | .E_ROUND => .next (encRoundRow s)
  | .D_IVLOAD => .next (decIvLoadRow s)
  | .D_IVROUND => .next (decIvRoundRow s)
  | .D_LOAD => .next (decLoadRow s)
  | .D_ROUND => .next (decRoundRow s)
  | .D_UNPAD => .next (decUnpadRow s)

/-- `k` steps of the sequencer with no other agent moving. -/
def seqRun : Nat → State → Host.Outcome State Fault Refusal
  | 0, s => .next s
  | k + 1, s =>
    match seqStep s with
    | .next t => seqRun k t
    | .fault r => .fault r
    | .refused r => .refused r

/-- The number of steps R255 gives a command, from its acceptance to its end: 1 for a refused one. -/
def stepCount (i : Instr) (s : State) : Nat :=
  match check i s with
  | some _ => 1
  | none =>
    match i with
    | .init wsel rounds klen =>
      match widthOfSel wsel with
      | some w => 2 + hashCount s.platform klen + mixCount (latchConfig w rounds klen s)
      | none => 1
    | .enc => 2 + (s.R.toNat + 1) + encBlocks s * (s.R.toNat + 2)
    | .dec => 2 + (s.R.toNat + 1) + decBlocks s * (s.R.toNat + 2) + 1
    | .encp => s.R.toNat + 4
    | .decp => s.R.toNat + 4
    | .pad => 2
    | .unpad => 2
    | .rotl => 2
    | .rotr => 2
    | .ldp _ => 2
    | .stp _ => 2
    | .clr => 2

end Sys2Proof.Machine
end

