-- ==== Sys2Proof/Machine/Command.lean ====
section
/-! DEFINITION. A whole command as one transition (spec 45_system R255), and what each turn does. -/

namespace Sys2Proof.Machine

/-- A command in one transition, from the CMD write to its end. While another command runs the write is refused; an
illegal word ends with E_ILLCMD; a command runs (R250, R255, 30_encoding R96). -/
def runCommand (v : BitVec 32) (s : State) : Host.Outcome State Fault Refusal :=
  if s.STATUS.BUSY then .next (refuseAccess s)
  else
    match decode v with
    | .error _ => .next (errorEnd .E_ILLCMD (accept v s))
    | .ok i => exec i (accept v s)

/-- What one turn does. -/
def takeTurn (t : Turn) (s : State) : Host.Outcome State Fault Refusal :=
  match t with
  | .host a => .next (hostAccess a s)
  | .sequencer => seqStep s
  | .command v => runCommand v s
  | .reset => .next (resetInput s)

/-- The state in which the FCE is idle and the next event is the whole command of a word: what `withFetchWord`
needs (log entry 8). -/
def offerCommand (v : BitVec 32) (s : State) : State :=
  { s with PHASE := .IDLE, STATUS := { s.STATUS with BUSY := false }, turns := .command v :: s.turns }

end Sys2Proof.Machine
end

