-- ==== Sys2Proof/Machine/Step.lean ====
section
/-! DEFINITION. One step: the next turn is taken; with no turn left the sequencer moves (log entry 6). -/

namespace Sys2Proof.Machine

/-- One step of the machine. The FCE fetches nothing from memory (spec 20_memory R72): what comes next is the first of
`turns`. With none left, a running command goes on (70_reset_and_hazards R318: "an enabled sequencer step is
eventually taken") and an idle FCE waits. -/
def step (s : State) : Host.Outcome State Fault Refusal :=
  match s.turns with
  | [] => seqStep s
  | t :: rest => takeTurn t { s with turns := rest }

/-- The state in which the very next step runs the command of a word (log entry 8). -/
def State.withFetchWord (s : State) (nbits w : Nat) : State :=
  offerCommand (BitVec.ofNat 32 (w % 2 ^ nbits)) s

end Sys2Proof.Machine
end

