-- ==== Sys2Proof/Machine/HostProgram.lean ====
section
/-! DEFINITION. The notation of host programs as events: each line of spec 30_encoding R99 and each pseudo-instruction
of R100 expands to turns. Commands are taken in the atomic view, so `wait` reads STATUS once (R100). -/

namespace Sys2Proof.Machine

/-- A register a host program names (R99). -/
inductive RegName where
  | CMD
  | STATUS
  | CFG
  | PWD_LEN
  | IN_LEN
  | OUT_LEN
  | A
  | B
  deriving DecidableEq, Repr

/-- A line of a host program (R99, R100). -/
inductive AsmLine where
  | wr (r : RegName) (value : BitVec 64)
  | rd (r : RegName)
  | wb (b : Buf) (off : Nat) (value : Byte)
  | rb (b : Buf) (off : Nat)
  /-- a command line: `init`, `enc`, ..., `ldp off`, `stp off`, `clr` -/
  | run (i : Instr)
  /-- `cmd word`: an arbitrary 32-bit word -/
  | cmd (word : BitVec 32)
  | wait
  | wbs (b : Buf) (off : Nat) (bytes : List Byte)
  | rbs (b : Buf) (off n : Nat)
  | ecbenc (off : Nat)
  | ecbdec (off : Nat)
  | hclr
  deriving DecidableEq, Repr

/-- The index of a register (20_memory R67). -/
def regIndex : RegName → Nat
  | .CMD => 0
  | .STATUS => 1
  | .CFG => 2
  | .PWD_LEN => 3
  | .IN_LEN => 4
  | .OUT_LEN => 5
  | .A => 6
  | .B => 7

/-- One read of STATUS. -/
def waitTurn : Turn := .host (.readReg (regIndex .STATUS))

/-- A byte write for each byte, offsets increasing (R100). -/
def writeBytesTurns (b : Buf) : Nat → List Byte → List Turn
  | _, [] => []
  | off, x :: xs => .host (.writeByte b off x) :: writeBytesTurns b (off + 1) xs

/-- The events of a line (R99, R100). -/
def expandLine : AsmLine → List Turn
  | .wr r v => [.host (.writeReg (regIndex r) v)]
  | .rd r => [.host (.readReg (regIndex r))]
  | .wb b off x => [.host (.writeByte b off x)]
  | .rb b off => [.host (.readByte b off)]
  | .run i => [.command (encode i)]
  | .cmd v => [.command v]
  | .wait => [waitTurn]
  | .wbs b off xs => writeBytesTurns b off xs
  | .rbs b off n => (List.range n).map fun i => .host (.readByte b (off + i))
  | .ecbenc off =>
    [.command (encode (.ldp off)), waitTurn, .command (encode .encp), waitTurn, .command (encode (.stp off)), waitTurn]
  | .ecbdec off =>
    [.command (encode (.ldp off)), waitTurn, .command (encode .decp), waitTurn, .command (encode (.stp off)), waitTurn]
  | .hclr => [.host (.writeReg (regIndex .STATUS) 0x20)]

/-- The events of a program, line after line. -/
def expandProgram : List AsmLine → List Turn
  | [] => []
  | l :: ls => expandLine l ++ expandProgram ls

end Sys2Proof.Machine
end

