-- ==== Sys2Proof/Safety.lean ====
section
/-! DEFINITION. The terms in which claims speak of states: the invariant (spec 10_state R47, extended to running
commands), what the host can observe (10_state R49), when a check of a command fails (60_exceptions R281 to R285), and
the end of a run (45_system R262). -/

namespace Sys2Proof.Machine

/-- The phases of INIT. -/
def Phase.building : Phase → Bool
  | .K_HASH => true
  | .K_SPLIT => true
  | .K_MIX => true
  | _ => false

/-- Whether the table of 45_system R254 has a row for a command in a work phase. -/
def Phase.runs (p : Phase) (i : Instr) : Prop :=
  match p with
  | .IDLE => False
  | .DECODE => False
  | .EXEC => (singleStepBody i).isSome = true
  | .K_HASH => ∃ a b c, i = .init a b c
  | .K_SPLIT => ∃ a b c, i = .init a b c
  | .K_MIX => ∃ a b c, i = .init a b c
  | .P_PRE => i = .encp ∨ i = .decp
  | .P_ROUND => i = .encp ∨ i = .decp
  | .P_POST => i = .encp ∨ i = .decp
  | .E_IV => i = .enc
  | .E_IVROUND => i = .enc
  | .E_LOAD => i = .enc
  | .E_ROUND => i = .enc
  | .D_IVLOAD => i = .dec
  | .D_IVROUND => i = .dec
  | .D_LOAD => i = .dec
  | .D_ROUND => i = .dec
  | .D_UNPAD => i = .dec

/-- A value lies in `[0, mask]`. -/
abbrev Fits (w : Width) (v : Word) : Prop := toWord w v = v

/-- The invariant: 10_state R47 item by item, and what holds while a command runs. -/
structure Inv (s : State) : Prop where
  /-- the parameters meet their constraints (00_scope R8, R10) -/
  platform : s.platform.wf
  /-- every buffer is in canonical form -/
  canonical : ∀ b, (s.buffer b).wf
  /-- no byte is stored at or above a buffer's capacity -/
  bounded : ∀ b, ∀ c ∈ s.buffer b, c.1 < capacity s.platform b
  /-- `BUSY = 1` exactly when `PHASE != IDLE` (R32) -/
  busy : s.STATUS.BUSY = true ↔ s.PHASE ≠ .IDLE
  /-- acceptance has cleared the result flags of a running command (45_system R250) -/
  running : s.STATUS.BUSY = true → s.STATUS.DONE = false ∧ s.STATUS.ERR = false ∧ s.STATUS.PADNV = false
  /-- R47 item 4 -/
  noError : s.STATUS.ERR = false → s.STATUS.ERRCODE = 0
  error : s.STATUS.ERR = true → s.STATUS.DONE = true ∧ 1 ≤ s.STATUS.ERRCODE.toNat ∧ s.STATUS.ERRCODE.toNat ≤ 5
  /-- R47 item 5 -/
  padnv : s.STATUS.PADNV = true → s.STATUS.DONE = true ∧ s.STATUS.ERR = false
  /-- R47 item 6 -/
  outLen : s.OUT_LEN.toNat ≤ outMax s.platform
  /-- R47 item 7 -/
  hidden : Fits s.WSEL s.X ∧ Fits s.WSEL s.Y ∧ Fits s.WSEL s.CV0 ∧ Fits s.WSEL s.CV1 ∧
    Fits s.WSEL s.KA ∧ Fits s.WSEL s.KB
  /-- R47 item 1, and the entries above `t` stay 0 (R26) -/
  subkeys : ∀ i, i < 512 → Fits s.WSEL (subkey s i) ∧ (subkeyCount s ≤ i → subkey s i = 0)
  /-- the key bytes above `KLEN` stay 0 (R27) -/
  keyBytes : ∀ i, i < 255 → s.KLEN.toNat ≤ i → tableGet s.KEY i 0 = 0
  /-- R47 items 1 and 3, when no INIT runs -/
  unkeyed : s.STATUS.KEYED = false → s.PHASE.building = false →
    s.WSEL = .w16 ∧ s.R = 0 ∧ s.KLEN = 0 ∧ (∀ i, i < 512 → subkey s i = 0) ∧ (∀ i, i < 255 → tableGet s.KEY i 0 = 0)
  /-- R47 item 2, which an INIT that has passed its checks meets already -/
  keyed : s.STATUS.KEYED = true ∨ s.PHASE.building = true → 1 ≤ s.KLEN.toNat
  /-- HBUF holds `HLEN` bytes (R45) -/
  hbuf : s.HBUF.length = s.platform.HLEN
  /-- the command in OPR has a row in a work phase, and its checks hold throughout (45_system R251) -/
  command : s.PHASE ≠ .IDLE → s.PHASE ≠ .DECODE →
    ∃ i, decode s.OPR = .ok i ∧ s.PHASE.runs i ∧ check i s = none
  /-- the block index of ENC -/
  encIndex : s.PHASE = .E_LOAD ∨ s.PHASE = .E_ROUND → s.BI.toNat < encBlocks s
  /-- the block index of DEC -/
  decIndex : s.PHASE = .D_LOAD ∨ s.PHASE = .D_ROUND → 1 ≤ s.BI.toNat ∧ s.BI.toNat ≤ decBlocks s
  /-- the subkey index of the mixing loop -/
  mixIndex : s.PHASE = .K_MIX → s.KI.toNat < subkeyCount s

/-- The host cannot tell two states apart by what 10_state R49 lets it observe; the platform is common knowledge. -/
structure HostEqual (s t : State) : Prop where
  platform : s.platform = t.platform
  status : s.STATUS = t.STATUS
  cfg : cfgWord s = cfgWord t
  pwdLen : s.PWD_LEN = t.PWD_LEN
  inLen : s.IN_LEN = t.IN_LEN
  outLen : s.OUT_LEN = t.OUT_LEN
  a : s.A = t.A
  b : s.B = t.B
  input : ∀ o, o < s.platform.IN_MAX → byteAt s .input o = byteAt t .input o
  output : ∀ o, o < outMax s.platform → byteAt s .output o = byteAt t .output o

/-- When a command is not allowed in the current lifecycle state (60_exceptions R282). -/
def failsState (s : State) : Instr → Prop
  | .init _ _ _ => s.STATUS.KEYED = true
  | .clr => False
  | _ => s.STATUS.KEYED = false

/-- When INIT is given an invalid configuration (R283). -/
def failsConfig : Instr → Prop
  | .init wsel _ klen => wsel = 3 ∨ klen = 0
  | _ => False

/-- When a length or offset is outside the buffers (R284). -/
def failsRange (s : State) : Instr → Prop
  | .init _ _ _ => s.PWD_LEN.toNat > s.platform.PWD_MAX
  | .enc => s.IN_LEN.toNat > s.platform.IN_MAX
  | .dec => s.IN_LEN.toNat > s.platform.IN_MAX
  | .pad => s.IN_LEN.toNat > s.platform.IN_MAX
  | .unpad => s.IN_LEN.toNat > s.platform.IN_MAX
  | .ldp off => s.IN_LEN.toNat > s.platform.IN_MAX ∨ off + blockSize s.WSEL > s.IN_LEN.toNat
  | .stp off => off + blockSize s.WSEL > outMax s.platform
  | _ => False

/-- When DEC is given an invalid ciphertext length (R285). -/
def failsCtLen (s : State) : Instr → Prop
  | .dec => s.IN_LEN.toNat % blockSize s.WSEL ≠ 0 ∨ s.IN_LEN.toNat < 2 * blockSize s.WSEL
  | _ => False

/-- When one check of a decoded command fails, by its error (R281 to R285). -/
def Fails (s : State) (i : Instr) : ErrCode → Prop
  | .E_ILLCMD => False
  | .E_STATE => failsState s i
  | .E_CONFIG => failsConfig i
  | .E_RANGE => failsRange s i
  | .E_CTLEN => failsCtLen s i

/-- The accesses the port refuses: the complete list of 60_exceptions R294. -/
def RefusedAccess (s : State) : HostAccess → Prop
  | .readReg k => k = 0 ∨ 8 ≤ k ∨ (s.STATUS.BUSY = true ∧ k ≠ 1)
  | .writeReg k _ => k = 2 ∨ k = 5 ∨ 8 ≤ k ∨ (s.STATUS.BUSY = true ∧ k ≠ 1)
  | .readByte b off => s.STATUS.BUSY = true ∨ b = .password ∨ capacity s.platform b ≤ off
  | .writeByte b off _ => s.STATUS.BUSY = true ∨ b = .output ∨ capacity s.platform b ≤ off

/-- A word, written to CMD of an idle FCE, ends at once with E_ILLCMD and changes nothing but STATUS and OPR
(30_encoding R96, 60_exceptions R281). -/
def EndsIllegal (v : BitVec 32) : Prop :=
  ∀ s : State, s.STATUS.BUSY = false →
    runCommand v s = .next { s with
      OPR := v
      PHASE := .IDLE
      STATUS := { BUSY := false, KEYED := s.STATUS.KEYED, DONE := true, ERR := true, PADNV := false,
                  HERR := s.STATUS.HERR, ERRCODE := 1 } }

/-- A run has ended: no event is left and no command runs (45_system R262). -/
def RunEnded (s : State) : Prop := s.turns = [] ∧ s.STATUS.BUSY = false

end Sys2Proof.Machine
end

