-- ==== Sys2Proof/Certificates/Slice0/Obligations.lean ====
section
/-! DEFINITION. The statements for the provers. Each docstring names the rule of spec/ it formalises. -/

open Sys2Proof Sys2Proof.Machine

/-! ### Encoding -/

/-- 30_encoding section 5: the worked encodings, and the words of format Z written from R91 and R95. -/
def Obligations.DecodeReadsWorkedEncodings : Prop :=
  decode 0x00100C11 = .ok (.init 1 12 16) ∧ decode 0x00030201 = .ok (.init 0 2 3) ∧
  decode 0x00090121 = .ok (.init 2 1 9) ∧ decode 0x0000040A = .ok (.ldp 4) ∧ decode 0x0000000B = .ok (.stp 0) ∧
  decode 0x00000002 = .ok .enc ∧ decode 0x00000003 = .ok .dec ∧ decode 0x00000004 = .ok .encp ∧
  decode 0x00000005 = .ok .decp ∧ decode 0x00000006 = .ok .pad ∧ decode 0x00000007 = .ok .unpad ∧
  decode 0x00000008 = .ok .rotl ∧ decode 0x00000009 = .ok .rotr ∧ decode 0x0000000C = .ok .clr

/-- Decoding an encoded well-formed command gives it back, every operand at every value its field admits. -/
def Obligations.DecodeInvertsEncode : Prop :=
  ∀ i : Instr, WellFormed i = true → decode (encode i) = .ok i

/-- A word that decodes is the one word of a well-formed command: no two words stand for one command. -/
def Obligations.EncodeInvertsDecode : Prop :=
  ∀ (v : BitVec 32) (i : Instr), decode v = .ok i → WellFormed i = true ∧ encode i = v

/-- R95: the mask and match of every command. -/
def Obligations.DecodeMatchesMaskTable : Prop :=
  ∀ v : BitVec 32,
    (v &&& 0xFF0000CF = 0x00000001 ↔ ∃ wsel rounds klen, decode v = .ok (.init wsel rounds klen)) ∧
    (v &&& 0xFFFFFFFF = 0x00000002 ↔ decode v = .ok .enc) ∧
    (v &&& 0xFFFFFFFF = 0x00000003 ↔ decode v = .ok .dec) ∧
    (v &&& 0xFFFFFFFF = 0x00000004 ↔ decode v = .ok .encp) ∧
    (v &&& 0xFFFFFFFF = 0x00000005 ↔ decode v = .ok .decp) ∧
    (v &&& 0xFFFFFFFF = 0x00000006 ↔ decode v = .ok .pad) ∧
    (v &&& 0xFFFFFFFF = 0x00000007 ↔ decode v = .ok .unpad) ∧
    (v &&& 0xFFFFFFFF = 0x00000008 ↔ decode v = .ok .rotl) ∧
    (v &&& 0xFFFFFFFF = 0x00000009 ↔ decode v = .ok .rotr) ∧
    (v &&& 0x000000FF = 0x0000000A ↔ ∃ off, decode v = .ok (.ldp off)) ∧
    (v &&& 0x000000FF = 0x0000000B ↔ ∃ off, decode v = .ok (.stp off)) ∧
    (v &&& 0xFFFFFFFF = 0x0000000C ↔ decode v = .ok .clr)

/-- R94: an operand is its field of the word, unsigned, taken as it stands, and the width is `16 << WSEL`. -/
def Obligations.OperandsAreUnsignedFields : Prop :=
  ∀ v : BitVec 32,
    (∀ wsel rounds klen, decode v = .ok (.init wsel rounds klen) →
      wsel = (v.extractLsb 5 4).toNat ∧ rounds = (v.extractLsb 15 8).toNat ∧ klen = (v.extractLsb 23 16).toNat) ∧
    (∀ off, decode v = .ok (.ldp off) ∨ decode v = .ok (.stp off) → off = (v.extractLsb 31 8).toNat) ∧
    (∀ (wsel : Nat) (w : Width), widthOfSel wsel = some w ↔ wsel ≤ 2 ∧ w.bits = 16 * 2 ^ wsel)

/-- R96: exactly which words are illegal, and that an accepted illegal word ends at once with E_ILLCMD and changes
nothing but STATUS and OPR, in the atomic view and in the sequencer's. -/
def Obligations.IllegalWordEndsWithIllcmd : Prop :=
  ∀ v : BitVec 32,
    ((∃ e, decode v = .error e) ↔
      (v.extractLsb 3 0 = 0x0 ∨ v.extractLsb 3 0 = 0xD ∨ v.extractLsb 3 0 = 0xE ∨ v.extractLsb 3 0 = 0xF) ∨
      (v.extractLsb 3 0 = 0x1 ∧ (v.extractLsb 31 24 ≠ 0 ∨ v.extractLsb 7 6 ≠ 0)) ∨
      ((v.extractLsb 3 0 = 0xA ∨ v.extractLsb 3 0 = 0xB) ∧ v.extractLsb 7 4 ≠ 0) ∨
      (v.extractLsb 3 0 ≠ 0x1 ∧ v.extractLsb 3 0 ≠ 0xA ∧ v.extractLsb 3 0 ≠ 0xB ∧ v.extractLsb 31 4 ≠ 0)) ∧
    (∀ e, decode v = .error e → EndsIllegal v ∧
      ∀ s : State, s.STATUS.BUSY = false → seqStep (accept v s) = runCommand v s) ∧
    (∃ e, decode 0x00000000 = .error e) ∧ (∃ e, decode 0xFFFFFFFF = .error e)

/-! ### Steps, commands and the sequencer -/

/-- A step whose turn is the whole command of a word runs the decoded command, in the state in which the word has just
been accepted; and `withFetchWord` makes the very next step do so. -/
def Obligations.StepRunsDecodedCommand : Prop :=
  (∀ (s : State) (v : BitVec 32) (i : Instr) (rest : List Turn),
    s.turns = .command v :: rest → s.STATUS.BUSY = false → decode v = .ok i →
    step s = exec i (accept v { s with turns := rest })) ∧
  (∀ (s : State) (nbits w : Nat) (i : Instr), decodeTableWord nbits w = some i →
    step (s.withFetchWord nbits w) =
      exec i (accept (BitVec.ofNat 32 (w % 2 ^ nbits))
        { s with PHASE := .IDLE, STATUS := { s.STATUS with BUSY := false } }))

/-- The model's schedule (log entry 6): each turn moves its agent, and with no turn left the sequencer moves; an idle FCE
waits (45_system R254, row IDLE). -/
def Obligations.EachTurnMovesItsAgent : Prop :=
  ∀ (s : State) (rest : List Turn),
    (∀ a, s.turns = .host a :: rest → step s = .next (hostAccess a { s with turns := rest })) ∧
    (s.turns = .sequencer :: rest → step s = seqStep { s with turns := rest }) ∧
    (s.turns = .reset :: rest → step s = .next (resetInput { s with turns := rest })) ∧
    (s.turns = [] → step s = seqStep s) ∧
    (s.turns = [] → s.PHASE = .IDLE → step s = .next s)

/-- R255: the sequencer's steps from acceptance to end leave exactly the state of the command run as one piece, after
exactly the number of steps the rule gives. That the hidden counters RC, BI and HC agree too rests on what the model lets
the one piece leave in them: they are DEDUCED from R252 and R254 (log entry 13). -/
def Obligations.SequencerRunEqualsWholeCommand : Prop :=
  ∀ (s : State) (v : BitVec 32), s.platform.wf → s.STATUS.BUSY = false →
    (∀ e, decode v = .error e → seqRun 1 (accept v s) = runCommand v s) ∧
    (∀ i, decode v = .ok i →
      seqRun (stepCount i (accept v s)) (accept v s) = runCommand v s ∧
      ∀ k, k < stepCount i (accept v s) →
        ∃ t, seqRun k (accept v s) = .next t ∧ t.STATUS.BUSY = true)

/-- R253: the error end changes four STATUS fields and PHASE, and no other state, in the DECODE step and in the atomic
view alike; and no other step of the sequencer ends with an error. -/
def Obligations.ErrorEndChangesStatusOnly : Prop :=
  ∀ (s : State) (i : Instr) (e : ErrCode), check i s = some e →
    exec i s = .next { s with
      PHASE := .IDLE
      STATUS := { s.STATUS with BUSY := false, DONE := true, ERR := true, ERRCODE := errNumber e } } ∧
    (s.PHASE = .DECODE → decode s.OPR = .ok i → seqStep s = exec i s) ∧
    (∀ r t : State, r.PHASE ≠ .DECODE → seqStep r = .next t →
      t.STATUS.ERR = r.STATUS.ERR ∧ t.STATUS.ERRCODE = r.STATUS.ERRCODE)

/-- R287: an illegal word ends with E_ILLCMD; of a decoded command the error reported is that of the failing check of
least code, and the command runs when none fails. -/
def Obligations.FirstFailingCheckIsReported : Prop :=
  (∀ (v : BitVec 32) (e : Illegal), decode v = .error e → EndsIllegal v) ∧
  errNumber .E_ILLCMD = 1 ∧ errNumber .E_STATE = 2 ∧ errNumber .E_CONFIG = 3 ∧ errNumber .E_RANGE = 4 ∧
  errNumber .E_CTLEN = 5 ∧
  ∀ (s : State) (i : Instr), WellFormed i = true →
    (∀ e, check i s = some e ↔
      Fails s i e ∧ ∀ e', (errNumber e').toNat < (errNumber e).toNat → ¬ Fails s i e') ∧
    (∀ e, check i s = some e →
      ∃ t, exec i s = .next t ∧ t.STATUS.ERR = true ∧ t.STATUS.ERRCODE = errNumber e) ∧
    (check i s = none ↔ ∀ e, ¬ Fails s i e)

/-! ### WordCodec -/

/-- R122: bit `i` of the word goes to bit `(i + n) mod w`, and the result is a word. -/
def Obligations.RotlMovesEveryBit : Prop :=
  ∀ (w : Width) (v s : Word),
    (∀ i, i < w.bits → (rotl w v s).getLsbD ((i + s.toNat % w.bits) % w.bits) = v.getLsbD i) ∧
    Fits w (rotl w v s) ∧ (s.toNat % w.bits = 0 → rotl w v s = v &&& mask w)

/-- R123: bit `i` of the word goes to bit `(i - n) mod w`; `rotr` and `rotl` undo each other; `rotr` is `rotl` by the
complement. -/
def Obligations.RotrInvertsRotl : Prop :=
  ∀ (w : Width) (v s : Word),
    (∀ i, i < w.bits →
      (rotr w v s).getLsbD ((i + (w.bits - s.toNat % w.bits)) % w.bits) = v.getLsbD i) ∧
    Fits w (rotr w v s) ∧
    (Fits w v → rotr w (rotl w v s) s = v ∧ rotl w (rotr w v s) s = v) ∧
    rotr w v s = rotl w v (BitVec.ofNat 64 (w.bits - s.toNat % w.bits))

/-- R125: only the low `log2(w)` bits of an amount count: masking it to the word, or to those bits, changes no rotation. -/
def Obligations.RotationAmountIsReduced : Prop :=
  ∀ (w : Width) (v s : Word) (n : Nat),
    s.toNat % w.bits = (s &&& BitVec.ofNat 64 (w.bits - 1)).toNat ∧
    (s &&& mask w).toNat % w.bits = s.toNat % w.bits ∧
    n % 2 ^ 64 % w.bits = n % w.bits ∧
    rotl w v (s &&& mask w) = rotl w v s ∧ rotr w v (s &&& mask w) = rotr w v s ∧
    rotl w v (s &&& BitVec.ofNat 64 (w.bits - 1)) = rotl w v s ∧
    rotr w v (s &&& BitVec.ofNat 64 (w.bits - 1)) = rotr w v s

/-- R124: the five operations give words; addition and subtraction wrap at the width; a sum of three words may be
reduced once at the end. -/
def Obligations.WordArithmeticWraps : Prop :=
  ∀ (w : Width) (x y z : Word), Fits w x → Fits w y →
    (wordAdd w x y).toNat = (x.toNat + y.toNat) % 2 ^ w.bits ∧
    Fits w (wordAdd w x y) ∧ Fits w (x ^^^ y) ∧ Fits w (rotl w x y) ∧ Fits w (rotr w x y) ∧
    (Fits w (wordSub w x y) ∧ wordAdd w (wordSub w x y) y = x ∧
      ∀ d, Fits w d → wordAdd w d y = x → d = wordSub w x y) ∧
    toWord w (x + y + z) = wordAdd w (wordAdd w x y) z

/-- R120, R121: little-endian assembly and disassembly, and that they undo each other. -/
def Obligations.BytesAndWordsConvert : Prop :=
  ∀ w : Width,
    (∀ b : List Byte, b.length = wordBytes w →
      (bytesToWord b).toNat =
        ((List.range (wordBytes w)).map fun i => (b.getD i 0).toNat * 2 ^ (8 * i)).sum ∧
      Fits w (bytesToWord b) ∧ wordToBytes w (bytesToWord b) = b) ∧
    (∀ v : Word, (wordToBytes w v).length = wordBytes w ∧
      (∀ i, i < wordBytes w → ((wordToBytes w v).getD i 0).toNat = v.toNat / 2 ^ (8 * i) % 256) ∧
      (Fits w v → bytesToWord (wordToBytes w v) = v))

/-- R126: ROTL. -/
def Obligations.RotlCommandRotatesA : Prop :=
  encode .rotl = 0x00000008 ∧ rotl .w32 0x12345678 0x24 = 0x23456781 ∧
  (∀ v : BitVec 32, v.extractLsb 3 0 = 0x8 → v.extractLsb 31 4 ≠ 0 → EndsIllegal v) ∧
  ∀ s : State,
    (s.STATUS.KEYED = true →
      exec .rotl s = .next { s with
        A := rotl s.WSEL (s.A &&& mask s.WSEL) s.B
        PHASE := .IDLE
        STATUS := { s.STATUS with BUSY := false, DONE := true } }) ∧
    (s.STATUS.KEYED = false →
      exec .rotl s = .next { s with
        PHASE := .IDLE
        STATUS := { s.STATUS with BUSY := false, DONE := true, ERR := true, ERRCODE := 2 } })

/-- R127: ROTR. -/
def Obligations.RotrCommandRotatesA : Prop :=
  encode .rotr = 0x00000009 ∧ rotr .w32 0x12345678 0x24 = 0x81234567 ∧
  (∀ v : BitVec 32, v.extractLsb 3 0 = 0x9 → v.extractLsb 31 4 ≠ 0 → EndsIllegal v) ∧
  ∀ s : State,
    (s.STATUS.KEYED = true →
      exec .rotr s = .next { s with
        A := rotr s.WSEL (s.A &&& mask s.WSEL) s.B
        PHASE := .IDLE
        STATUS := { s.STATUS with BUSY := false, DONE := true } }) ∧
    (s.STATUS.KEYED = false →
      exec .rotr s = .next { s with
        PHASE := .IDLE
        STATUS := { s.STATUS with BUSY := false, DONE := true, ERR := true, ERRCODE := 2 } })

/-- R128: LDP, with its encoding, its error forms and its frame: nothing but A, B, PHASE and STATUS changes. -/
def Obligations.LdpLoadsPair : Prop :=
  (∀ v : BitVec 32, v.extractLsb 3 0 = 0xA →
    (v.extractLsb 7 4 = 0 → decode v = .ok (.ldp (v.extractLsb 31 8).toNat)) ∧
    (v.extractLsb 7 4 ≠ 0 → EndsIllegal v)) ∧
  ∀ (s : State) (off : Nat),
    (s.STATUS.KEYED = true → s.IN_LEN.toNat ≤ s.platform.IN_MAX →
      off + 2 * wordBytes s.WSEL ≤ s.IN_LEN.toNat →
      exec (.ldp off) s = .next { s with
        A := bytesToWord ((List.range (wordBytes s.WSEL)).map fun i => byteAt s .input (off + i))
        B := bytesToWord ((List.range (wordBytes s.WSEL)).map fun i =>
          byteAt s .input (off + wordBytes s.WSEL + i))
        PHASE := .IDLE
        STATUS := { s.STATUS with BUSY := false, DONE := true } }) ∧
    (s.STATUS.KEYED = false →
      exec (.ldp off) s = .next { s with
        PHASE := .IDLE
        STATUS := { s.STATUS with BUSY := false, DONE := true, ERR := true, ERRCODE := 2 } }) ∧
    (s.STATUS.KEYED = true →
      s.IN_LEN.toNat > s.platform.IN_MAX ∨ off + 2 * wordBytes s.WSEL > s.IN_LEN.toNat →
      exec (.ldp off) s = .next { s with
        PHASE := .IDLE
        STATUS := { s.STATUS with BUSY := false, DONE := true, ERR := true, ERRCODE := 4 } })

/-- R129: STP, with its encoding and its error forms, stores at the operand's own offset; every byte of OUT outside the `2*wb` stored ones, and everything but
OUT, PHASE and STATUS, is unchanged. -/
def Obligations.StpStoresPair : Prop :=
  (∀ v : BitVec 32, v.extractLsb 3 0 = 0xB →
    (v.extractLsb 7 4 = 0 → decode v = .ok (.stp (v.extractLsb 31 8).toNat)) ∧
    (v.extractLsb 7 4 ≠ 0 → EndsIllegal v)) ∧
  ∀ (s : State) (off : Nat),
    (s.STATUS.KEYED = true → off + 2 * wordBytes s.WSEL ≤ s.platform.IN_MAX + 32 →
      ∃ t, exec (.stp off) s = .next t ∧
        t = { s with
          OUT := t.OUT
          PHASE := .IDLE
          STATUS := { s.STATUS with BUSY := false, DONE := true } } ∧
        (∀ i, i < wordBytes s.WSEL →
          (byteAt t .output (off + i)).toNat = (s.A &&& mask s.WSEL).toNat / 2 ^ (8 * i) % 256 ∧
          (byteAt t .output (off + wordBytes s.WSEL + i)).toNat =
            (s.B &&& mask s.WSEL).toNat / 2 ^ (8 * i) % 256) ∧
        (∀ a, a < off ∨ off + 2 * wordBytes s.WSEL ≤ a → byteAt t .output a = byteAt s .output a)) ∧
    (s.STATUS.KEYED = false →
      exec (.stp off) s = .next { s with
        PHASE := .IDLE
        STATUS := { s.STATUS with BUSY := false, DONE := true, ERR := true, ERRCODE := 2 } }) ∧
    (s.STATUS.KEYED = true → off + 2 * wordBytes s.WSEL > s.platform.IN_MAX + 32 →
      exec (.stp off) s = .next { s with
        PHASE := .IDLE
        STATUS := { s.STATUS with BUSY := false, DONE := true, ERR := true, ERRCODE := 4 } })

/-- R319: a host write to A or B and the next read show all 64 bits; bits `63:w` of A and B never reach a command's
result, and are 0 in the registers a command writes. -/
def Obligations.UpperBitsOfPairAreIgnored : Prop :=
  (∀ (s : State) (v : BitVec 64), s.STATUS.BUSY = false →
    (hostAccess (.readReg 6) (hostAccess (.writeReg 6 v) s)).readData = v ∧
    (hostAccess (.readReg 7) (hostAccess (.writeReg 7 v) s)).readData = v) ∧
  ∀ (s : State) (a b : Word) (i : Instr) (t : State),
    a &&& mask s.WSEL = s.A &&& mask s.WSEL → b &&& mask s.WSEL = s.B &&& mask s.WSEL →
    s.STATUS.KEYED = true → check i s = none →
    i = .rotl ∨ i = .rotr ∨ i = .encp ∨ i = .decp ∨ (∃ off, i = .ldp off) ∨ (∃ off, i = .stp off) →
    exec i s = .next t →
    ∃ u, exec i { s with A := a, B := b } = .next u ∧ u.OUT = t.OUT ∧
      ((∀ off, i ≠ .stp off) → u.A = t.A ∧ Fits t.WSEL t.A) ∧
      (i = .encp ∨ i = .decp ∨ (∃ off, i = .ldp off) → u.B = t.B ∧ Fits t.WSEL t.B)

/-! ### KeyScheduleBuilder -/

/-- R10, R150: an answer of HASH has `HLEN` bytes; the key is the trailing `klen` bytes of `h_m || ... || h_1 || h_0`,
where `h_0 = HASH(pwd)` and `h_k = HASH(h_(k-1))` (the reading of log entry 17): byte `q` of chunk `k` stands at `klen - (k+1)*HLEN + q`. -/
def Obligations.KdfKeepsTrailingBytes : Prop :=
  ∀ (p : Platform) (pwd : List Byte) (klen : Nat), 1 ≤ p.HLEN → 1 ≤ klen →
    (hash p pwd).length = p.HLEN ∧ (kdf p pwd klen).length = klen ∧
    (∀ k q, q < p.HLEN → (k + 1) * p.HLEN ≤ klen + q →
      (kdf p pwd klen).getD (klen + q - (k + 1) * p.HLEN) 0 =
        (((hash p)^[k + 1]) pwd).getD q 0) ∧
    (klen ≤ p.HLEN → kdf p pwd klen = (hash p pwd).drop (p.HLEN - klen))

/-- R151: key word `j` is the little-endian word of bytes `KEY[j*wb ..]` with zeros after the last key byte; entries of
L from `c` on, and all other state, are unchanged. -/
def Obligations.SplitKeyIsLittleEndian : Prop :=
  ∀ s : State,
    splitKey s = { s with L := (splitKey s).L } ∧
    (1 ≤ s.KLEN.toNat → 1 ≤ keyWordCount s) ∧
    (∀ j, j < keyWordCount s →
      (tableGet (splitKey s).L j 0).toNat =
        ((List.range (wordBytes s.WSEL)).map fun q =>
          (if j * wordBytes s.WSEL + q < s.KLEN.toNat then
            (tableGet s.KEY (j * wordBytes s.WSEL + q) 0).toNat else 0) * 2 ^ (8 * q)).sum) ∧
    (∀ j, keyWordCount s ≤ j → tableGet (splitKey s).L j 0 = tableGet s.L j 0)

/-- R152: `S[i] = (P_w + i*Q_w) AND mask` below `t`; entries from `t` on, and all other state, are unchanged. -/
def Obligations.SeedTableAddsQ : Prop :=
  ∀ s : State,
    seedTable s = { s with S := (seedTable s).S } ∧
    (∀ i, i < subkeyCount s →
      (subkey (seedTable s) i).toNat =
        ((seedP s.platform s.WSEL).toNat + i * (seedQ s.platform s.WSEL).toNat) % 2 ^ s.WSEL.bits) ∧
    (∀ i, subkeyCount s ≤ i → subkey (seedTable s) i = subkey s i)

/-- R153: the mixing loop makes `3 * max(t, c)` iterations of the two lines, the S half first, both indices wrapping
independently; it writes words of the width only, and leaves the entries of S from `t` on and of L from `c` on alone.
`f n` is the state after `n` iterations. -/
def Obligations.MixingRunsIterations : Prop :=
  ∀ (s : State) (f : Nat → State), 1 ≤ s.KLEN.toNat →
    f 0 = { s with KA := 0, KB := 0, KI := 0, KJ := 0
                   KN := BitVec.ofNat 11 (3 * max (subkeyCount s) (keyWordCount s)) } →
    (∀ n, n < 3 * max (subkeyCount s) (keyWordCount s) →
      ∃ a b : Word,
        a = rotl s.WSEL ((subkey (f n) (f n).KI.toNat + (f n).KA + (f n).KB) &&& mask s.WSEL) 3 ∧
        b = rotl s.WSEL ((tableGet (f n).L (f n).KJ.toNat 0 + a + (f n).KB) &&& mask s.WSEL) (a + (f n).KB) ∧
        f (n + 1) = { f n with
          S := (f n).S.setIfInBounds (f n).KI.toNat a
          KA := a
          KI := BitVec.ofNat 9 (((f n).KI.toNat + 1) % subkeyCount s)
          L := (f n).L.setIfInBounds (f n).KJ.toNat b
          KB := b
          KJ := BitVec.ofNat 7 (((f n).KJ.toNat + 1) % keyWordCount s)
          KN := (f n).KN - 1 }) →
    mixTables s = f (3 * max (subkeyCount s) (keyWordCount s)) ∧
    6 ≤ 3 * max (subkeyCount s) (keyWordCount s) ∧ 3 * max (subkeyCount s) (keyWordCount s) ≤ 1536 ∧
    (mixTables s).KN = 0 ∧
    (mixTables s).KI = BitVec.ofNat 9 (3 * max (subkeyCount s) (keyWordCount s) % subkeyCount s) ∧
    (mixTables s).KJ = BitVec.ofNat 7 (3 * max (subkeyCount s) (keyWordCount s) % keyWordCount s) ∧
    (∀ i, i < subkeyCount s → Fits s.WSEL (subkey (mixTables s) i)) ∧
    (∀ i, subkeyCount s ≤ i → subkey (mixTables s) i = subkey s i) ∧
    (∀ j, j < keyWordCount s → Fits s.WSEL (tableGet (mixTables s).L j 0)) ∧
    (∀ j, keyWordCount s ≤ j → tableGet (mixTables s).L j 0 = tableGet s.L j 0)

/-- R155: INIT on an unkeyed engine with a valid configuration latches the parameters, derives the key by R150, builds S
by R151 to R153 from that key, sets KEYED, and changes nothing but its destinations and the sequencer's counters; in
each other case it ends with the error of its first failing check and changes nothing else. -/
def Obligations.InitConstructsEngine : Prop :=
  (∀ v : BitVec 32, v.extractLsb 3 0 = 0x1 →
    (v.extractLsb 31 24 = 0 → v.extractLsb 7 6 = 0 →
      decode v = .ok (.init (v.extractLsb 5 4).toNat (v.extractLsb 15 8).toNat (v.extractLsb 23 16).toNat)) ∧
    (v.extractLsb 31 24 ≠ 0 ∨ v.extractLsb 7 6 ≠ 0 → EndsIllegal v)) ∧
  ∀ (s : State) (wsel rounds klen : Nat), WellFormed (.init wsel rounds klen) = true →
    (∀ w : Width,
      s.platform.wf → s.STATUS.KEYED = false → w.bits = 16 * 2 ^ wsel → 1 ≤ klen →
      s.PWD_LEN.toNat ≤ s.platform.PWD_MAX →
      ∃ t, exec (.init wsel rounds klen) s = .next t ∧
        t = { s with
          WSEL := w
          R := BitVec.ofNat 8 rounds
          KLEN := BitVec.ofNat 8 klen
          KEY := t.KEY
          HBUF := ((hash s.platform)^[ceilDiv klen s.platform.HLEN]) (memRead s .password 0 s.PWD_LEN.toNat)
          HC := t.HC
          L := t.L, S := t.S, KA := t.KA, KB := t.KB, KI := t.KI, KJ := t.KJ, KN := 0
          PHASE := .IDLE
          STATUS := { s.STATUS with KEYED := true, BUSY := false, DONE := true } } ∧
        (∀ i, i < klen →
          tableGet t.KEY i 0 = (kdf s.platform (memRead s .password 0 s.PWD_LEN.toNat) klen).getD i 0) ∧
        (∀ i, klen ≤ i → tableGet t.KEY i 0 = tableGet s.KEY i 0) ∧
        (let built := mixTables (seedTable (splitKey { s with
            WSEL := w, R := BitVec.ofNat 8 rounds, KLEN := BitVec.ofNat 8 klen, KEY := t.KEY }))
         t.S = built.S ∧ t.L = built.L ∧ t.KA = built.KA ∧ t.KB = built.KB)) ∧
    (s.STATUS.KEYED = true →
      exec (.init wsel rounds klen) s = .next { s with
        PHASE := .IDLE
        STATUS := { s.STATUS with BUSY := false, DONE := true, ERR := true, ERRCODE := 2 } }) ∧
    (s.STATUS.KEYED = false → wsel = 3 ∨ klen = 0 →
      exec (.init wsel rounds klen) s = .next { s with
        PHASE := .IDLE
        STATUS := { s.STATUS with BUSY := false, DONE := true, ERR := true, ERRCODE := 3 } }) ∧
    (s.STATUS.KEYED = false → wsel ≤ 2 → 1 ≤ klen → s.PWD_LEN.toNat > s.platform.PWD_MAX →
      exec (.init wsel rounds klen) s = .next { s with
        PHASE := .IDLE
        STATUS := { s.STATUS with BUSY := false, DONE := true, ERR := true, ERRCODE := 4 } })

/-- R157: two engines built with the same password and parameters have the same key and the same subkey table, and
decrypt every pair alike, whatever else their states hold. -/
def Obligations.InitDependsOnPasswordAlone : Prop :=
  ∀ (s t : State) (wsel rounds klen : Nat),
    s.platform.wf → s.platform = t.platform → s.PWD_LEN = t.PWD_LEN →
    (∀ o, o < s.PWD_LEN.toNat → byteAt s .password o = byteAt t .password o) →
    WellFormed (.init wsel rounds klen) = true →
    check (.init wsel rounds klen) s = none → check (.init wsel rounds klen) t = none →
    ∃ s' t', exec (.init wsel rounds klen) s = .next s' ∧ exec (.init wsel rounds klen) t = .next t' ∧
      (∀ i, i < 2 * rounds + 2 → subkey s' i = subkey t' i) ∧
      (∀ i, i < klen → tableGet s'.KEY i 0 = tableGet t'.KEY i 0) ∧
      (∀ p, decryptPair s' p = decryptPair t' p)

/-- R156: while the engine is keyed no step changes S, KEY, WSEL, R or KLEN, and only CLR and reset end
it. -/
def Obligations.KeyedTablesNeverChange : Prop :=
  ∀ s t : State, Inv s → step s = .next t → s.STATUS.KEYED = true →
    (t.STATUS.KEYED = true ∧ t.S = s.S ∧ t.KEY = s.KEY ∧ t.WSEL = s.WSEL ∧ t.R = s.R ∧ t.KLEN = s.KLEN) ∨
    (t.STATUS.KEYED = false ∧
      ((∃ rest, s.turns = .reset :: rest) ∨
       (∃ v rest, s.turns = .command v :: rest ∧ decode v = .ok .clr) ∨
       (s.PHASE = .EXEC ∧ decode s.OPR = .ok .clr)))

/-! ### BlockCipherCore -/

/-- R182: decryptPair undoes encryptPair and the reverse, for all words, round counts and subkeys. -/
def Obligations.DecryptPairInvertsEncryptPair : Prop :=
  ∀ (s : State) (a b : Word), Fits s.WSEL a → Fits s.WSEL b →
    decryptPair s (encryptPair s (a, b)) = (a, b) ∧ encryptPair s (decryptPair s (a, b)) = (a, b)

/-- R185: with no round the primitive is the two key additions, or subtractions, alone. -/
def Obligations.ZeroRoundsAddKeysOnly : Prop :=
  ∀ (s : State) (a b : Word), s.R = 0 →
    encryptPair s (a, b) = ((a + subkey s 0) &&& mask s.WSEL, (b + subkey s 1) &&& mask s.WSEL) ∧
    decryptPair s (a, b) = ((a - subkey s 0) &&& mask s.WSEL, (b - subkey s 1) &&& mask s.WSEL) ∧
    subkeyCount s = 2

/-- R180: encryptPair is the two additions and then rounds 1 to R of the two lines, the second line with the new X; its
result is a pair of words. `p rc` is the pair after round `rc`. -/
def Obligations.EncryptPairRunsRoundsInOrder : Prop :=
  ∀ (s : State) (p : Nat → Word × Word) (a b : Word),
    p 0 = ((a + subkey s 0) &&& mask s.WSEL, (b + subkey s 1) &&& mask s.WSEL) →
    (∀ rc, rc < s.R.toNat →
      (p (rc + 1)).1 = (rotl s.WSEL ((p rc).1 ^^^ (p rc).2) (p rc).2 + subkey s (2 * (rc + 1))) &&& mask s.WSEL ∧
      (p (rc + 1)).2 = (rotl s.WSEL ((p rc).2 ^^^ (p (rc + 1)).1) (p (rc + 1)).1 +
        subkey s (2 * (rc + 1) + 1)) &&& mask s.WSEL) →
    encryptPair s (a, b) = p s.R.toNat ∧
    Fits s.WSEL (encryptPair s (a, b)).1 ∧ Fits s.WSEL (encryptPair s (a, b)).2

/-- R181: decryptPair is the un-rounds R down to 1 of the two lines, the second line with the Y just restored, and then
the two subtractions. `p rc` is the pair before un-round `rc`, so `p 0` is the pair after the last. -/
def Obligations.DecryptPairRunsRoundsInReverse : Prop :=
  ∀ (s : State) (p : Nat → Word × Word) (a b : Word),
    p s.R.toNat = (a, b) →
    (∀ rc, rc < s.R.toNat →
      (p rc).2 = rotr s.WSEL (((p (rc + 1)).2 - subkey s (2 * (rc + 1) + 1)) &&& mask s.WSEL) (p (rc + 1)).1 ^^^
        (p (rc + 1)).1 ∧
      (p rc).1 = rotr s.WSEL (((p (rc + 1)).1 - subkey s (2 * (rc + 1))) &&& mask s.WSEL) (p rc).2 ^^^ (p rc).2) →
    decryptPair s (a, b) =
      (((p 0).1 - subkey s 0) &&& mask s.WSEL, ((p 0).2 - subkey s 1) &&& mask s.WSEL)

/-- R183: ENCP, with its error forms and its frame: nothing but A, B, the working pair, the counter RC, PHASE and
STATUS changes. -/
def Obligations.EncpEncryptsPair : Prop :=
  encode .encp = 0x00000004 ∧
  (∀ v : BitVec 32, v.extractLsb 3 0 = 0x4 → v.extractLsb 31 4 ≠ 0 → EndsIllegal v) ∧
  ∀ s : State,
    (s.STATUS.KEYED = true → ∃ rc,
      exec .encp s = .next { s with
        X := (encryptPair s (s.A &&& mask s.WSEL, s.B &&& mask s.WSEL)).1
        Y := (encryptPair s (s.A &&& mask s.WSEL, s.B &&& mask s.WSEL)).2
        A := (encryptPair s (s.A &&& mask s.WSEL, s.B &&& mask s.WSEL)).1
        B := (encryptPair s (s.A &&& mask s.WSEL, s.B &&& mask s.WSEL)).2
        RC := rc
        PHASE := .IDLE
        STATUS := { s.STATUS with BUSY := false, DONE := true } }) ∧
    (s.STATUS.KEYED = false →
      exec .encp s = .next { s with
        PHASE := .IDLE
        STATUS := { s.STATUS with BUSY := false, DONE := true, ERR := true, ERRCODE := 2 } })

/-- R184: DECP, with its error forms and its frame, and that ENCP then DECP, or DECP then ENCP, leaves the words of A
and B as they were and bits `63:w` zero. -/
def Obligations.DecpDecryptsPair : Prop :=
  encode .decp = 0x00000005 ∧
  (∀ v : BitVec 32, v.extractLsb 3 0 = 0x5 → v.extractLsb 31 4 ≠ 0 → EndsIllegal v) ∧
  ∀ s : State,
    (s.STATUS.KEYED = true → ∃ rc,
      exec .decp s = .next { s with
        X := (decryptPair s (s.A &&& mask s.WSEL, s.B &&& mask s.WSEL)).1
        Y := (decryptPair s (s.A &&& mask s.WSEL, s.B &&& mask s.WSEL)).2
        A := (decryptPair s (s.A &&& mask s.WSEL, s.B &&& mask s.WSEL)).1
        B := (decryptPair s (s.A &&& mask s.WSEL, s.B &&& mask s.WSEL)).2
        RC := rc
        PHASE := .IDLE
        STATUS := { s.STATUS with BUSY := false, DONE := true } }) ∧
    (s.STATUS.KEYED = false →
      exec .decp s = .next { s with
        PHASE := .IDLE
        STATUS := { s.STATUS with BUSY := false, DONE := true, ERR := true, ERRCODE := 2 } }) ∧
    (s.STATUS.KEYED = true →
      (∃ t u, exec .encp s = .next t ∧ exec .decp t = .next u ∧
        u.A = s.A &&& mask s.WSEL ∧ u.B = s.B &&& mask s.WSEL) ∧
      (∃ t u, exec .decp s = .next t ∧ exec .encp t = .next u ∧
        u.A = s.A &&& mask s.WSEL ∧ u.B = s.B &&& mask s.WSEL))

/-- The counters a command leaves behind: "keep their last values" (45_system R252) read row by row from R254 (log entry
13). The block counts are those of R220 and R221, the number of hash requests that of R150. -/
def Obligations.CountersKeepLastValues : Prop :=
  ∀ s : State,
    (check .encp s = none → ∃ t, exec .encp s = .next t ∧ t.RC.toNat = s.R.toNat + 1) ∧
    (check .decp s = none → ∃ t, exec .decp s = .next t ∧ t.RC = 0) ∧
    (check .enc s = none → ∃ t, exec .enc s = .next t ∧ t.RC.toNat = s.R.toNat + 1 ∧
      t.BI.toNat = (s.IN_LEN.toNat + padLength s.WSEL s.IN_LEN.toNat) / blockSize s.WSEL) ∧
    (check .dec s = none → ∃ t, exec .dec s = .next t ∧ t.RC = 0 ∧
      t.BI.toNat = s.IN_LEN.toNat / blockSize s.WSEL) ∧
    (∀ wsel rounds klen, s.platform.wf → WellFormed (.init wsel rounds klen) = true →
      check (.init wsel rounds klen) s = none →
      ∃ t, exec (.init wsel rounds klen) s = .next t ∧ t.HC.toNat = ceilDiv klen s.platform.HLEN ∧ t.KN = 0)

/-! ### PaddingCodec -/

/-- R204: PAD then unpad on the bytes written gives the message back, for every message that fits; and an aligned message
gets exactly one whole block of filler, every byte equal to the block size. -/
def Obligations.UnpadRestoresPaddedMessage : Prop :=
  (∀ (w : Width) (b : List Byte), unpad (pad w b) = (b, false)) ∧
  ∀ s : State, s.platform.wf → s.STATUS.KEYED = true → s.IN_LEN.toNat ≤ s.platform.IN_MAX →
    ∃ t, exec .pad s = .next t ∧
      unpad (memRead t .output 0 t.OUT_LEN.toNat) = (memRead s .input 0 s.IN_LEN.toNat, false) ∧
      (s.IN_LEN.toNat % blockSize s.WSEL = 0 →
        t.OUT_LEN.toNat = s.IN_LEN.toNat + blockSize s.WSEL ∧
        ∀ a, s.IN_LEN.toNat ≤ a → a < s.IN_LEN.toNat + blockSize s.WSEL →
          (byteAt t .output a).toNat = blockSize s.WSEL)

/-- R200: `n` bytes of value `n` are appended, `1 <= n <= bs`, `n = bs` exactly for an aligned input, and the result's
length is the smallest multiple of `bs` strictly greater than the input's. -/
def Obligations.PadAppendsShortestFiller : Prop :=
  ∀ (w : Width) (b : List Byte),
    ∃ n, 1 ≤ n ∧ n ≤ blockSize w ∧ pad w b = b ++ List.replicate n (BitVec.ofNat 8 n) ∧
      (BitVec.ofNat 8 n).toNat = n ∧ (n = blockSize w ↔ b.length % blockSize w = 0) ∧
      (pad w b).length % blockSize w = 0 ∧
      ∀ m, b.length < m → m % blockSize w = 0 → (pad w b).length ≤ m

/-- R201: unpad leaves its input exactly in the four named cases, and else strips the `n` bytes; it undoes pad. -/
def Obligations.UnpadStripsOrLeaves : Prop :=
  unpad [] = ([], true) ∧
  ∀ (b : List Byte) (n : Byte), b.getLast? = some n →
    (n = 0 ∨ n.toNat > b.length ∨
        (∃ i, b.length - n.toNat ≤ i ∧ i < b.length ∧ b.getD i 0 ≠ n) →
      unpad b = (b, true)) ∧
    (n ≠ 0 → n.toNat ≤ b.length →
        (∀ i, b.length - n.toNat ≤ i → i < b.length → b.getD i 0 = n) →
      unpad b = (b.take (b.length - n.toNat), false)) ∧
    (∀ w : Width, unpad (pad w b) = (b, false))

/-- R202: PAD. Every byte of OUT outside `OUT[0 .. len+n-1]`, and everything but OUT, OUT_LEN, PHASE and STATUS, is
unchanged. -/
def Obligations.PadCommandWritesPaddedMessage : Prop :=
  encode .pad = 0x00000006 ∧
  (∀ v : BitVec 32, v.extractLsb 3 0 = 0x6 → v.extractLsb 31 4 ≠ 0 → EndsIllegal v) ∧
  ∀ s : State,
    (s.platform.wf → s.STATUS.KEYED = true → s.IN_LEN.toNat ≤ s.platform.IN_MAX →
      ∃ t n, exec .pad s = .next t ∧ n = 2 * wordBytes s.WSEL - s.IN_LEN.toNat % (2 * wordBytes s.WSEL) ∧
        t = { s with
          OUT := t.OUT
          OUT_LEN := t.OUT_LEN
          PHASE := .IDLE
          STATUS := { s.STATUS with BUSY := false, DONE := true } } ∧
        t.OUT_LEN.toNat = s.IN_LEN.toNat + n ∧
        (∀ a, a < s.IN_LEN.toNat → byteAt t .output a = byteAt s .input a) ∧
        (∀ a, s.IN_LEN.toNat ≤ a → a < s.IN_LEN.toNat + n → (byteAt t .output a).toNat = n) ∧
        (∀ a, s.IN_LEN.toNat + n ≤ a → byteAt t .output a = byteAt s .output a)) ∧
    (s.STATUS.KEYED = false →
      exec .pad s = .next { s with
        PHASE := .IDLE
        STATUS := { s.STATUS with BUSY := false, DONE := true, ERR := true, ERRCODE := 2 } }) ∧
    (s.STATUS.KEYED = true → s.IN_LEN.toNat > s.platform.IN_MAX →
      exec .pad s = .next { s with
        PHASE := .IDLE
        STATUS := { s.STATUS with BUSY := false, DONE := true, ERR := true, ERRCODE := 4 } })

/-- R203: UNPAD copies the whole input, and reports the stripped length and PADNV. Every byte of OUT outside
`OUT[0 .. len-1]`, and everything but OUT, OUT_LEN, PHASE and STATUS, is unchanged. -/
def Obligations.UnpadCommandCopiesAndMeasures : Prop :=
  encode .unpad = 0x00000007 ∧
  (∀ v : BitVec 32, v.extractLsb 3 0 = 0x7 → v.extractLsb 31 4 ≠ 0 → EndsIllegal v) ∧
  ∀ s : State,
    (s.STATUS.KEYED = true → s.IN_LEN.toNat ≤ s.platform.IN_MAX →
      ∃ t, exec .unpad s = .next t ∧
        t = { s with
          OUT := t.OUT
          OUT_LEN := t.OUT_LEN
          PHASE := .IDLE
          STATUS := { s.STATUS with BUSY := false, DONE := true,
                                    PADNV := (unpad (memRead s .input 0 s.IN_LEN.toNat)).2 } } ∧
        t.OUT_LEN.toNat = (unpad (memRead s .input 0 s.IN_LEN.toNat)).1.length ∧
        (∀ a, a < s.IN_LEN.toNat → byteAt t .output a = byteAt s .input a) ∧
        (∀ a, s.IN_LEN.toNat ≤ a → byteAt t .output a = byteAt s .output a)) ∧
    (s.STATUS.KEYED = false →
      exec .unpad s = .next { s with
        PHASE := .IDLE
        STATUS := { s.STATUS with BUSY := false, DONE := true, ERR := true, ERRCODE := 2 } }) ∧
    (s.STATUS.KEYED = true → s.IN_LEN.toNat > s.platform.IN_MAX →
      exec .unpad s = .next { s with
        PHASE := .IDLE
        STATUS := { s.STATUS with BUSY := false, DONE := true, ERR := true, ERRCODE := 4 } })

/-! ### CbcModeDriver -/

/-- R226: block `k` of the padded message, read without building it, is block `k` of `pad(IN[0 .. len-1])`. -/
def Obligations.PaddedPairIsBlockOfPaddedMessage : Prop :=
  ∀ (s : State) (k : Nat),
    k < (s.IN_LEN.toNat + padLength s.WSEL s.IN_LEN.toNat) / blockSize s.WSEL →
    loadPaddedPair s k = pairOfBytes s.WSEL
      (((pad s.WSEL (memRead s .input 0 s.IN_LEN.toNat)).drop (k * blockSize s.WSEL)).take (blockSize s.WSEL))

/-- R220: ENC draws the clear IV pair, first word first, emits it encrypted as block 0, chains the padded message block
by block into OUT, sets OUT_LEN, and changes nothing but its destinations, the RNG port and the sequencer's counters.
`ivs` is what the RNG port answers (the model's choice, log entry 3). -/
def Obligations.EncChainsBlocks : Prop :=
  encode .enc = 0x00000002 ∧
  (∀ v : BitVec 32, v.extractLsb 3 0 = 0x2 → v.extractLsb 31 4 ≠ 0 → EndsIllegal v) ∧
  ∀ s : State,
    (s.platform.wf → s.STATUS.KEYED = true → s.IN_LEN.toNat ≤ s.platform.IN_MAX →
      ∃ (t : State) (C : Nat → Word × Word) (ivs : List Word) (N : Nat),
        exec .enc s = .next t ∧
        N = (s.IN_LEN.toNat + padLength s.WSEL s.IN_LEN.toNat) / blockSize s.WSEL ∧ 1 ≤ N ∧
        ivs = (s.rngAnswers ++ [Config.draw s.drawn, Config.draw (s.drawn + 1)]).take 2 ∧
        (let iv := (ivs.getD 0 0 &&& mask s.WSEL, ivs.getD 1 0 &&& mask s.WSEL)
         C 0 = encryptPair s iv ∧
         C 1 = encryptPair s (xorPair (loadPaddedPair s 0) iv) ∧
         (∀ k, 1 ≤ k → k < N → C (k + 1) = encryptPair s (xorPair (loadPaddedPair s k) (C k)))) ∧
        (∀ k j, k ≤ N → j < blockSize s.WSEL →
          byteAt t .output (k * blockSize s.WSEL + j) = (bytesOfPair s.WSEL (C k).1 (C k).2).getD j 0) ∧
        (∀ a, (N + 1) * blockSize s.WSEL ≤ a → byteAt t .output a = byteAt s .output a) ∧
        t.OUT_LEN.toNat = (N + 1) * blockSize s.WSEL ∧
        t = { s with
          OUT := t.OUT
          OUT_LEN := t.OUT_LEN
          X := (C N).1, Y := (C N).2, CV0 := (C N).1, CV1 := (C N).2
          RC := t.RC
          BI := t.BI
          rngAnswers := s.rngAnswers.drop 2
          drawn := s.drawn + (2 - s.rngAnswers.length)
          PHASE := .IDLE
          STATUS := { s.STATUS with BUSY := false, DONE := true } }) ∧
    (s.STATUS.KEYED = false →
      exec .enc s = .next { s with
        PHASE := .IDLE
        STATUS := { s.STATUS with BUSY := false, DONE := true, ERR := true, ERRCODE := 2 } }) ∧
    (s.STATUS.KEYED = true → s.IN_LEN.toNat > s.platform.IN_MAX →
      exec .enc s = .next { s with
        PHASE := .IDLE
        STATUS := { s.STATUS with BUSY := false, DONE := true, ERR := true, ERRCODE := 4 } })

/-- R221: DEC recovers the IV from block 0, decrypts each block and XORs it with the previous ciphertext pair (the IV for
the first), strips the padding by R201 on the bytes just written, and changes nothing but its destinations and the
sequencer's counters RC and BI. -/
def Obligations.DecUnchainsBlocks : Prop :=
  encode .dec = 0x00000003 ∧
  (∀ v : BitVec 32, v.extractLsb 3 0 = 0x3 → v.extractLsb 31 4 ≠ 0 → EndsIllegal v) ∧
  ∀ s : State,
    (s.platform.wf → s.STATUS.KEYED = true → s.IN_LEN.toNat ≤ s.platform.IN_MAX →
      s.IN_LEN.toNat % blockSize s.WSEL = 0 → 2 * blockSize s.WSEL ≤ s.IN_LEN.toNat →
      ∃ (t : State) (C : Nat → Word × Word) (N : Nat),
        exec .dec s = .next t ∧ N = s.IN_LEN.toNat / blockSize s.WSEL - 1 ∧ 1 ≤ N ∧
        (∀ k, C k = loadPair s .input (k * blockSize s.WSEL)) ∧
        (∀ j, j < blockSize s.WSEL →
          byteAt t .output j =
            (let p := xorPair (decryptPair s (C 1)) (decryptPair s (C 0))
             (bytesOfPair s.WSEL p.1 p.2).getD j 0)) ∧
        (∀ k j, 2 ≤ k → k ≤ N → j < blockSize s.WSEL →
          byteAt t .output ((k - 1) * blockSize s.WSEL + j) =
            (let p := xorPair (decryptPair s (C k)) (C (k - 1))
             (bytesOfPair s.WSEL p.1 p.2).getD j 0)) ∧
        (∀ a, N * blockSize s.WSEL ≤ a → byteAt t .output a = byteAt s .output a) ∧
        t.OUT_LEN.toNat = (unpad (memRead t .output 0 (N * blockSize s.WSEL))).1.length ∧
        t = { s with
          OUT := t.OUT
          OUT_LEN := t.OUT_LEN
          X := (decryptPair s (C N)).1, Y := (decryptPair s (C N)).2, CV0 := (C N).1, CV1 := (C N).2
          RC := t.RC
          BI := t.BI
          PHASE := .IDLE
          STATUS := { s.STATUS with BUSY := false, DONE := true,
                                    PADNV := (unpad (memRead t .output 0 (N * blockSize s.WSEL))).2 } }) ∧
    (s.STATUS.KEYED = false →
      exec .dec s = .next { s with
        PHASE := .IDLE
        STATUS := { s.STATUS with BUSY := false, DONE := true, ERR := true, ERRCODE := 2 } }) ∧
    (s.STATUS.KEYED = true → s.IN_LEN.toNat > s.platform.IN_MAX →
      exec .dec s = .next { s with
        PHASE := .IDLE
        STATUS := { s.STATUS with BUSY := false, DONE := true, ERR := true, ERRCODE := 4 } }) ∧
    (s.STATUS.KEYED = true → s.IN_LEN.toNat ≤ s.platform.IN_MAX →
      s.IN_LEN.toNat % blockSize s.WSEL ≠ 0 ∨ s.IN_LEN.toNat < 2 * blockSize s.WSEL →
      exec .dec s = .next { s with
        PHASE := .IDLE
        STATUS := { s.STATUS with BUSY := false, DONE := true, ERR := true, ERRCODE := 5 } })

/-- R224: ENC, then DEC on the same engine with the ciphertext copied to IN, gives the message back, for every draw and
every round count, 0 included, and every length that R224 admits: `len + 32 <= IN_MAX`, so none at `IN_MAX = 16`. `u` is
any state in which the host has done the copy. -/
def Obligations.CbcRoundTrip : Prop :=
  ∀ s : State, s.platform.wf → s.STATUS.KEYED = true → s.IN_LEN.toNat + 32 ≤ s.platform.IN_MAX →
    ∃ t, exec .enc s = .next t ∧
      ∀ u : State,
        u.platform = t.platform → u.STATUS.KEYED = true → u.WSEL = t.WSEL → u.R = t.R → u.S = t.S →
        u.IN_LEN = t.OUT_LEN → (∀ o, o < t.OUT_LEN.toNat → byteAt u .input o = byteAt t .output o) →
        ∃ v, exec .dec u = .next v ∧ v.OUT_LEN = s.IN_LEN ∧
          (∀ o, o < s.IN_LEN.toNat → byteAt v .output o = byteAt s .input o) ∧
          v.STATUS.PADNV = false ∧ v.STATUS.DONE = true ∧ v.STATUS.ERR = u.STATUS.ERR

/-! ### System, host port and reset -/

/-- R256: CLR leaves the reset state but for PWD, IN, OUT, PWD_LEN, IN_LEN, HERR, DONE and the latch OPR; the model's own
fields (log entries 1, 3, 4, 6, 9) are kept too. It runs whether KEYED is 0 or 1. -/
def Obligations.ClrLeavesResetState : Prop :=
  encode .clr = 0x0000000C ∧
  (∀ v : BitVec 32, v.extractLsb 3 0 = 0xC → v.extractLsb 31 4 ≠ 0 → EndsIllegal v) ∧
  ∀ s : State, s.STATUS.ERR = false → s.STATUS.ERRCODE = 0 → s.STATUS.PADNV = false →
    exec .clr s = .next { State.reset with
      HBUF := List.replicate s.platform.HLEN 0
      OPR := s.OPR
      STATUS := { BUSY := false, KEYED := false, DONE := true, ERR := false, PADNV := false,
                  HERR := s.STATUS.HERR, ERRCODE := 0 }
      PWD_LEN := s.PWD_LEN, IN_LEN := s.IN_LEN, PWD := s.PWD, IN := s.IN, OUT := s.OUT
      platform := s.platform, turns := s.turns, readData := s.readData, rngAnswers := s.rngAnswers
      drawn := s.drawn, epoch := s.epoch }

/-- R257: what a host register read returns and does. -/
def Obligations.RegisterReadTable : Prop :=
  ∀ (s : State) (k : Nat),
    hostAccess (.readReg 1) s = { s with readData := (statusWord s.STATUS).setWidth 64 } ∧
    (k ≠ 1 → s.STATUS.BUSY = true ∨ k = 0 ∨ 8 ≤ k →
      hostAccess (.readReg k) s = { s with readData := 0, STATUS := { s.STATUS with HERR := true } }) ∧
    (s.STATUS.BUSY = false →
      hostAccess (.readReg 2) s = { s with readData := (cfgWord s).setWidth 64 } ∧
      hostAccess (.readReg 3) s = { s with readData := s.PWD_LEN.setWidth 64 } ∧
      hostAccess (.readReg 4) s = { s with readData := s.IN_LEN.setWidth 64 } ∧
      hostAccess (.readReg 5) s = { s with readData := s.OUT_LEN.setWidth 64 } ∧
      hostAccess (.readReg 6) s = { s with readData := s.A } ∧
      hostAccess (.readReg 7) s = { s with readData := s.B })

/-- R250, R258: what a host register write does. A 32-bit value reaches a 32-bit register whole. -/
def Obligations.RegisterWriteTable : Prop :=
  ∀ (s : State) (k : Nat) (x : BitVec 32) (v : BitVec 64),
    (s.STATUS.BUSY = false →
      hostAccess (.writeReg 0 (x.setWidth 64)) s = { s with
        OPR := x
        PHASE := .DECODE
        STATUS := { BUSY := true, KEYED := s.STATUS.KEYED, DONE := false, ERR := false, PADNV := false,
                    HERR := s.STATUS.HERR, ERRCODE := 0 } }) ∧
    (s.STATUS.BUSY = true →
      hostAccess (.writeReg 0 v) s = { s with STATUS := { s.STATUS with HERR := true } }) ∧
    (hostAccess (.writeReg 1 v) s =
      { s with STATUS := { s.STATUS with HERR := s.STATUS.HERR && !v.getLsbD 5 } }) ∧
    (k ≠ 0 → k ≠ 1 → s.STATUS.BUSY = true ∨ k = 2 ∨ k = 5 ∨ 8 ≤ k →
      hostAccess (.writeReg k v) s = { s with STATUS := { s.STATUS with HERR := true } }) ∧
    (s.STATUS.BUSY = false →
      hostAccess (.writeReg 3 (x.setWidth 64)) s = { s with PWD_LEN := x } ∧
      hostAccess (.writeReg 4 (x.setWidth 64)) s = { s with IN_LEN := x } ∧
      hostAccess (.writeReg 6 v) s = { s with A := v } ∧
      hostAccess (.writeReg 7 v) s = { s with B := v })

/-- R259: what a host buffer access does. A stored byte reads back, and no other byte of any buffer changes. -/
def Obligations.BufferAccessTable : Prop :=
  ∀ (s : State) (b : Buf) (o : Nat) (x : Byte),
    (s.STATUS.BUSY = false → b ≠ .output → o < capacity s.platform b →
      byteAt (hostAccess (.writeByte b o x) s) b o = x ∧
      (∀ b' a, b' ≠ b ∨ a ≠ o → byteAt (hostAccess (.writeByte b o x) s) b' a = byteAt s b' a) ∧
      hostAccess (.writeByte b o x) s =
        { s with PWD := (hostAccess (.writeByte b o x) s).PWD, IN := (hostAccess (.writeByte b o x) s).IN }) ∧
    (s.STATUS.BUSY = false → b ≠ .password → o < capacity s.platform b →
      hostAccess (.readByte b o) s = { s with readData := (byteAt s b o).setWidth 64 }) ∧
    (s.STATUS.BUSY = true ∨ b = .password ∨ capacity s.platform b ≤ o →
      hostAccess (.readByte b o) s = { s with readData := 0, STATUS := { s.STATUS with HERR := true } }) ∧
    (s.STATUS.BUSY = true ∨ b = .output ∨ capacity s.platform b ≤ o →
      hostAccess (.writeByte b o x) s = { s with STATUS := { s.STATUS with HERR := true } })

/-- R31: the layout of STATUS as read, its reset value, and that a write changes HERR alone, clearing it when bit 5 is
1. -/
def Obligations.StatusRegisterLayout : Prop :=
  ∀ (t : Status) (s : State) (v : BitVec 64),
    (statusWord t).getLsbD 0 = t.BUSY ∧ (statusWord t).getLsbD 1 = t.KEYED ∧
    (statusWord t).getLsbD 2 = t.DONE ∧ (statusWord t).getLsbD 3 = t.ERR ∧
    (statusWord t).getLsbD 4 = t.PADNV ∧ (statusWord t).getLsbD 5 = t.HERR ∧
    (statusWord t).extractLsb 7 6 = 0 ∧ (statusWord t).extractLsb 11 8 = t.ERRCODE ∧
    (statusWord t).extractLsb 31 12 = 0 ∧ statusWord State.reset.STATUS = 0 ∧
    (hostAccess (.readReg 1) s).readData = (statusWord s.STATUS).setWidth 64 ∧
    (v.getLsbD 5 = true →
      hostAccess (.writeReg 1 v) s = { s with STATUS := { s.STATUS with HERR := false } }) ∧
    (v.getLsbD 5 = false → hostAccess (.writeReg 1 v) s = s)

/-- R38: CFG is a view of the latches, and reads 0 while the engine is not keyed and idle. -/
def Obligations.CfgIsAView : Prop :=
  ∀ s : State,
    (cfgWord s).extractLsb 3 0 = 0 ∧ 16 * 2 ^ ((cfgWord s).extractLsb 5 4).toNat = s.WSEL.bits ∧
    (cfgWord s).extractLsb 7 6 = 0 ∧ (cfgWord s).extractLsb 15 8 = s.R ∧
    (cfgWord s).extractLsb 23 16 = s.KLEN ∧ (cfgWord s).extractLsb 31 24 = 0 ∧
    (Inv s → s.STATUS.KEYED = false → s.STATUS.BUSY = false → cfgWord s = 0)

/-- R314: while a command runs, an access to anything but STATUS is refused: a write is lost, a read returns 0, HERR is
set and nothing else changes; and no host access changes what the running command does. -/
def Obligations.BusyLockOutLeavesCommandAlone : Prop :=
  (∀ (s : State) (a : HostAccess), s.STATUS.BUSY = true → a ≠ .readReg 1 → (∀ v, a ≠ .writeReg 1 v) →
    hostAccess a s = { s with
      STATUS := { s.STATUS with HERR := true }
      readData := match a with
        | .readReg _ => 0
        | .readByte _ _ => 0
        | .writeReg _ _ => s.readData
        | .writeByte _ _ _ => s.readData }) ∧
  (∀ (s : State) (a : HostAccess), s.STATUS.BUSY = true →
    ∃ h d, hostAccess a s = { s with STATUS := { s.STATUS with HERR := h }, readData := d }) ∧
  (∀ (s t : State) (h : Bool) (d : BitVec 64), seqStep s = .next t →
    seqStep { s with STATUS := { s.STATUS with HERR := h }, readData := d } =
      .next { t with STATUS := { t.STATUS with HERR := h }, readData := d })

/-- R37, 60_exceptions R294: an access of the list sets HERR and changes nothing else; HERR is set by an access of the
list only (a command word written while busy is one, taken as a `command` turn: log entries 6, 7), and cleared by a write
of 1 to bit 5 of STATUS and by reset only. -/
def Obligations.HerrSetByRefusalOnly : Prop :=
  (∀ (s : State) (a : HostAccess), RefusedAccess s a →
    ∃ d, hostAccess a s = { s with STATUS := { s.STATUS with HERR := true }, readData := d }) ∧
  ∀ s t : State, step s = .next t →
    (s.STATUS.HERR = false → t.STATUS.HERR = true →
      (∃ a rest, s.turns = .host a :: rest ∧ RefusedAccess s a) ∨
      (∃ v rest, s.turns = .command v :: rest ∧ s.STATUS.BUSY = true)) ∧
    (s.STATUS.HERR = true → t.STATUS.HERR = false →
      (∃ v rest, s.turns = .host (.writeReg 1 v) :: rest ∧ v.getLsbD 5 = true) ∨
      (∃ rest, s.turns = .reset :: rest))

/-- R48: the state after reset. -/
def Obligations.ResetStateIsZero : Prop :=
  let s := State.reset
  s.A = 0 ∧ s.B = 0 ∧ s.X = 0 ∧ s.Y = 0 ∧ s.CV0 = 0 ∧ s.CV1 = 0 ∧ s.KA = 0 ∧ s.KB = 0 ∧
  s.WSEL = .w16 ∧ selOfWidth s.WSEL = 0 ∧ s.R = 0 ∧ s.KLEN = 0 ∧
  (∀ i, i < 512 → tableGet s.S i 1 = 0) ∧ (∀ i, i < 128 → tableGet s.L i 1 = 0) ∧
  (∀ i, i < 255 → tableGet s.KEY i 1 = 0) ∧ s.HBUF.length = s.platform.HLEN ∧ (∀ x ∈ s.HBUF, x = 0) ∧
  s.PHASE = .IDLE ∧ s.OPR = 0 ∧ s.RC = 0 ∧ s.BI = 0 ∧ s.KI = 0 ∧ s.KJ = 0 ∧ s.KN = 0 ∧ s.HC = 0 ∧
  statusWord s.STATUS = 0 ∧ cfgWord s = 0 ∧ s.PWD_LEN = 0 ∧ s.IN_LEN = 0 ∧ s.OUT_LEN = 0

/-- R310, R311: reset takes effect at once, whatever PHASE is, and leaves every register, table, latch and counter 0. -/
def Obligations.ResetInputTakesEffectAtOnce : Prop :=
  ∀ (s : State) (rest : List Turn), s.turns = .reset :: rest →
    ∃ t, step s = .next t ∧
      t.A = 0 ∧ t.B = 0 ∧ t.PWD_LEN = 0 ∧ t.IN_LEN = 0 ∧ t.OUT_LEN = 0 ∧
      t.X = 0 ∧ t.Y = 0 ∧ t.CV0 = 0 ∧ t.CV1 = 0 ∧ t.KA = 0 ∧ t.KB = 0 ∧
      t.WSEL = .w16 ∧ t.R = 0 ∧ t.KLEN = 0 ∧
      (∀ i, i < 512 → tableGet t.S i 1 = 0) ∧ (∀ i, i < 128 → tableGet t.L i 1 = 0) ∧
      (∀ i, i < 255 → tableGet t.KEY i 1 = 0) ∧ t.HBUF = List.replicate s.platform.HLEN 0 ∧
      t.OPR = 0 ∧ t.RC = 0 ∧ t.BI = 0 ∧ t.KI = 0 ∧ t.KJ = 0 ∧ t.KN = 0 ∧ t.HC = 0 ∧
      t.PHASE = .IDLE ∧ statusWord t.STATUS = 0 ∧ cfgWord t = 0

/-! ### The whole machine -/

/-- The invariant holds after reset (10_state R47, R48). -/
def Obligations.ResetMeetsInvariant : Prop := Inv State.reset

/-- 10_state R46, R47: every step, of every agent, keeps the invariant and the parameters. -/
def Obligations.StepKeepsInvariant : Prop :=
  ∀ s t : State, Inv s → step s = .next t → Inv t ∧ t.platform = s.platform

/-- R288: after acceptance no step can fail: a state that meets the invariant always has a next state. -/
def Obligations.InvariantStatesNeverStop : Prop :=
  ∀ s : State, Inv s → ∃ t, step s = .next t

/-- R49: no access lets the host tell apart two states that agree on what it may observe, be it by the answer or by
what it observes afterwards; PWD, KEY, L, S, HBUF, the working registers and the sequencer state do not show. -/
def Obligations.HostSeesNoHiddenState : Prop :=
  ∀ (s t : State) (a : HostAccess), HostEqual s t → s.readData = t.readData →
    (hostAccess a s).readData = (hostAccess a t).readData ∧ HostEqual (hostAccess a s) (hostAccess a t)

/-- 10_state R39, R40, R42, R43: no command changes PWD, IN, PWD_LEN or IN_LEN, whole or in its steps. -/
def Obligations.CommandsLeaveInputsAlone : Prop :=
  ∀ s t : State, ((∃ i, exec i s = .next t) ∨ seqStep s = .next t) →
    t.PWD = s.PWD ∧ t.IN = s.IN ∧ t.PWD_LEN = s.PWD_LEN ∧ t.IN_LEN = s.IN_LEN

/-- 10_state R21, R41, R44: which commands may change A, B, OUT and OUT_LEN. -/
def Obligations.ResultRegistersHaveTheirWriters : Prop :=
  ∀ (i : Instr) (s t : State), exec i s = .next t →
    (t.A ≠ s.A → i = .rotl ∨ i = .rotr ∨ i = .encp ∨ i = .decp ∨ (∃ off, i = .ldp off) ∨ i = .clr) ∧
    (t.B ≠ s.B → i = .encp ∨ i = .decp ∨ (∃ off, i = .ldp off) ∨ i = .clr) ∧
    (t.OUT ≠ s.OUT → i = .enc ∨ i = .dec ∨ i = .pad ∨ i = .unpad ∨ (∃ off, i = .stp off)) ∧
    (t.OUT_LEN ≠ s.OUT_LEN → i = .enc ∨ i = .dec ∨ i = .pad ∨ i = .unpad ∨ i = .clr)
end

