-- ==== Sys2Proof/Laws/Codec.lean ====
section
/-! SUPPORT. Small facts about words, widths, operand fields and the internal tables. -/

namespace Sys2Proof.Machine

@[simp] theorem wordBytes_w16 : wordBytes .w16 = 2 := rfl
@[simp] theorem wordBytes_w32 : wordBytes .w32 = 4 := rfl
@[simp] theorem wordBytes_w64 : wordBytes .w64 = 8 := rfl

/-- The block size is one of 4, 8 and 16. -/
theorem blockSize_cases (w : Width) : blockSize w = 4 ∨ blockSize w = 8 ∨ blockSize w = 16 := by
  cases w <;> simp [blockSize]

/-- The block size is positive. -/
theorem blockSize_pos (w : Width) : 0 < blockSize w := by
  rcases blockSize_cases w with h | h | h <;> omega

/-- Masking twice is masking once. -/
@[simp] theorem toWord_toWord (w : Width) (v : Word) : toWord w (toWord w v) = toWord w v := by
  simp [toWord, BitVec.and_assoc]

/-- A masked value lies in `[0, mask]`. -/
theorem fits_toWord (w : Width) (v : Word) : Fits w (toWord w v) := toWord_toWord w v

/-- A sum lies in `[0, mask]`. -/
theorem fits_wordAdd (w : Width) (x y : Word) : Fits w (wordAdd w x y) := fits_toWord w _

/-- A difference lies in `[0, mask]`. -/
theorem fits_wordSub (w : Width) (x y : Word) : Fits w (wordSub w x y) := fits_toWord w _

/-- A rotation lies in `[0, mask]`. -/
theorem fits_rotl (w : Width) (v s : Word) : Fits w (rotl w v s) := by
  simp only [rotl]
  split <;> exact fits_toWord w _

/-- A rotation lies in `[0, mask]`. -/
theorem fits_rotr (w : Width) (v s : Word) : Fits w (rotr w v s) := by
  simp only [rotr]
  split <;> exact fits_toWord w _

/-- The exclusive or of two words is a word. -/
theorem fits_xor {w : Width} {x y : Word} (hx : Fits w x) (hy : Fits w y) : Fits w (x ^^^ y) := by
  have h : toWord w (x ^^^ y) = toWord w x ^^^ toWord w y := by
    apply BitVec.eq_of_getLsbD_eq
    intro i hi
    simp only [toWord, BitVec.getLsbD_and, BitVec.getLsbD_xor, Bool.and_xor_distrib_right]
  rw [Fits, h, hx, hy]

/-- Zero is a word of every width. -/
theorem fits_zero (w : Width) : Fits w 0 := by cases w <;> decide

@[simp] theorem tableFill_nil {α : Type} {n : Nat} (t : Vector α n) (i : Nat) : tableFill t i [] = t := rfl

/-- What an entry of a table reads as after storing one. -/
theorem tableGet_set {α : Type} {n : Nat} (t : Vector α n) (i j : Nat) (x d : α) :
    tableGet (t.setIfInBounds i x) j d = if i = j ∧ j < n then x else tableGet t j d := by
  simp only [tableGet, Vector.getElem?_setIfInBounds]
  by_cases h : i = j
  · subst h
    by_cases hn : i < n <;> simp [hn]
  · simp [h]

/-- What an entry of a table reads as after filling a run. -/
theorem tableGet_tableFill {α : Type} {n : Nat} (t : Vector α n) (i : Nat) (xs : List α) (j : Nat) (d : α) :
    tableGet (tableFill t i xs) j d =
      if i ≤ j ∧ j < i + xs.length ∧ j < n then xs.getD (j - i) d else tableGet t j d := by
  induction xs generalizing t i with
  | nil => simp; intro h1 h2; omega
  | cons x xs ih =>
    simp only [tableFill, ih, List.length_cons, tableGet_set]
    by_cases hij : i = j
    · subst hij
      by_cases hn : i < n <;> simp [hn]
    · by_cases hin : i + 1 ≤ j ∧ j < i + 1 + xs.length ∧ j < n
      · have hin' : i ≤ j ∧ j < i + (xs.length + 1) ∧ j < n := by omega
        rw [if_pos hin, if_pos hin']
        obtain ⟨k, hk⟩ : ∃ k, j - i = k + 1 := ⟨j - i - 1, by omega⟩
        have : j - (i + 1) = k := by omega
        rw [hk, this]
        simp
      · have hin' : ¬(i ≤ j ∧ j < i + (xs.length + 1) ∧ j < n) := by omega
        rw [if_neg hin, if_neg hin']
        simp [hij]

end Sys2Proof.Machine
end

