-- ==== Sys2Proof/Laws/KeySchedule.lean ====
section
/-! SUPPORT. What the mixing loop leaves alone. -/

namespace Sys2Proof.Machine

/-- However many mixing iterations have run, the width and the two table lengths are what they were. -/
theorem mixStep_iterate_counts (s : State) (n : Nat) :
    (mixStep^[n] s).WSEL = s.WSEL ∧ subkeyCount (mixStep^[n] s) = subkeyCount s ∧
      keyWordCount (mixStep^[n] s) = keyWordCount s := by
  induction n with
  | zero => exact ⟨rfl, rfl, rfl⟩
  | succ n ih =>
    rw [Function.iterate_succ_apply']
    exact ih

end Sys2Proof.Machine
end

