-- ==== Sys2Proof/Laws/State.lean ====
section
/-! SUPPORT. One lemma per field per named update of the state, true by `rfl`, so that no proof unfolds a record
update. -/

namespace Sys2Proof.Machine

@[simp] theorem accept_A (v : BitVec 32) (s : State) : (accept v s).A = s.A := rfl
@[simp] theorem accept_B (v : BitVec 32) (s : State) : (accept v s).B = s.B := rfl
@[simp] theorem accept_X (v : BitVec 32) (s : State) : (accept v s).X = s.X := rfl
@[simp] theorem accept_Y (v : BitVec 32) (s : State) : (accept v s).Y = s.Y := rfl
@[simp] theorem accept_CV0 (v : BitVec 32) (s : State) : (accept v s).CV0 = s.CV0 := rfl
@[simp] theorem accept_CV1 (v : BitVec 32) (s : State) : (accept v s).CV1 = s.CV1 := rfl
@[simp] theorem accept_KA (v : BitVec 32) (s : State) : (accept v s).KA = s.KA := rfl
@[simp] theorem accept_KB (v : BitVec 32) (s : State) : (accept v s).KB = s.KB := rfl
@[simp] theorem accept_WSEL (v : BitVec 32) (s : State) : (accept v s).WSEL = s.WSEL := rfl
@[simp] theorem accept_R (v : BitVec 32) (s : State) : (accept v s).R = s.R := rfl
@[simp] theorem accept_KLEN (v : BitVec 32) (s : State) : (accept v s).KLEN = s.KLEN := rfl
@[simp] theorem accept_S (v : BitVec 32) (s : State) : (accept v s).S = s.S := rfl
@[simp] theorem accept_KEY (v : BitVec 32) (s : State) : (accept v s).KEY = s.KEY := rfl
@[simp] theorem accept_L (v : BitVec 32) (s : State) : (accept v s).L = s.L := rfl
@[simp] theorem accept_HBUF (v : BitVec 32) (s : State) : (accept v s).HBUF = s.HBUF := rfl
@[simp] theorem accept_PHASE (v : BitVec 32) (s : State) : (accept v s).PHASE = .DECODE := rfl
@[simp] theorem accept_OPR (v : BitVec 32) (s : State) : (accept v s).OPR = v := rfl
@[simp] theorem accept_RC (v : BitVec 32) (s : State) : (accept v s).RC = s.RC := rfl
@[simp] theorem accept_BI (v : BitVec 32) (s : State) : (accept v s).BI = s.BI := rfl
@[simp] theorem accept_KI (v : BitVec 32) (s : State) : (accept v s).KI = s.KI := rfl
@[simp] theorem accept_KJ (v : BitVec 32) (s : State) : (accept v s).KJ = s.KJ := rfl
@[simp] theorem accept_KN (v : BitVec 32) (s : State) : (accept v s).KN = s.KN := rfl
@[simp] theorem accept_HC (v : BitVec 32) (s : State) : (accept v s).HC = s.HC := rfl
@[simp] theorem accept_STATUS (v : BitVec 32) (s : State) :
    (accept v s).STATUS = { s.STATUS with BUSY := true, DONE := false, ERR := false, ERRCODE := 0, PADNV := false } := rfl
@[simp] theorem accept_PWD_LEN (v : BitVec 32) (s : State) : (accept v s).PWD_LEN = s.PWD_LEN := rfl
@[simp] theorem accept_IN_LEN (v : BitVec 32) (s : State) : (accept v s).IN_LEN = s.IN_LEN := rfl
@[simp] theorem accept_OUT_LEN (v : BitVec 32) (s : State) : (accept v s).OUT_LEN = s.OUT_LEN := rfl
@[simp] theorem accept_PWD (v : BitVec 32) (s : State) : (accept v s).PWD = s.PWD := rfl
@[simp] theorem accept_IN (v : BitVec 32) (s : State) : (accept v s).IN = s.IN := rfl
@[simp] theorem accept_OUT (v : BitVec 32) (s : State) : (accept v s).OUT = s.OUT := rfl
@[simp] theorem accept_platform (v : BitVec 32) (s : State) : (accept v s).platform = s.platform := rfl
@[simp] theorem accept_turns (v : BitVec 32) (s : State) : (accept v s).turns = s.turns := rfl
@[simp] theorem accept_readData (v : BitVec 32) (s : State) : (accept v s).readData = s.readData := rfl
@[simp] theorem accept_rngAnswers (v : BitVec 32) (s : State) : (accept v s).rngAnswers = s.rngAnswers := rfl
@[simp] theorem accept_drawn (v : BitVec 32) (s : State) : (accept v s).drawn = s.drawn := rfl
@[simp] theorem accept_epoch (v : BitVec 32) (s : State) : (accept v s).epoch = s.epoch := rfl

@[simp] theorem okEnd_A (s : State) : (okEnd s).A = s.A := rfl
@[simp] theorem okEnd_B (s : State) : (okEnd s).B = s.B := rfl
@[simp] theorem okEnd_X (s : State) : (okEnd s).X = s.X := rfl
@[simp] theorem okEnd_Y (s : State) : (okEnd s).Y = s.Y := rfl
@[simp] theorem okEnd_CV0 (s : State) : (okEnd s).CV0 = s.CV0 := rfl
@[simp] theorem okEnd_CV1 (s : State) : (okEnd s).CV1 = s.CV1 := rfl
@[simp] theorem okEnd_KA (s : State) : (okEnd s).KA = s.KA := rfl
@[simp] theorem okEnd_KB (s : State) : (okEnd s).KB = s.KB := rfl
@[simp] theorem okEnd_WSEL (s : State) : (okEnd s).WSEL = s.WSEL := rfl
@[simp] theorem okEnd_R (s : State) : (okEnd s).R = s.R := rfl
@[simp] theorem okEnd_KLEN (s : State) : (okEnd s).KLEN = s.KLEN := rfl
@[simp] theorem okEnd_S (s : State) : (okEnd s).S = s.S := rfl
@[simp] theorem okEnd_KEY (s : State) : (okEnd s).KEY = s.KEY := rfl
@[simp] theorem okEnd_L (s : State) : (okEnd s).L = s.L := rfl
@[simp] theorem okEnd_HBUF (s : State) : (okEnd s).HBUF = s.HBUF := rfl
@[simp] theorem okEnd_PHASE (s : State) : (okEnd s).PHASE = .IDLE := rfl
@[simp] theorem okEnd_OPR (s : State) : (okEnd s).OPR = s.OPR := rfl
@[simp] theorem okEnd_RC (s : State) : (okEnd s).RC = s.RC := rfl
@[simp] theorem okEnd_BI (s : State) : (okEnd s).BI = s.BI := rfl
@[simp] theorem okEnd_KI (s : State) : (okEnd s).KI = s.KI := rfl
@[simp] theorem okEnd_KJ (s : State) : (okEnd s).KJ = s.KJ := rfl
@[simp] theorem okEnd_KN (s : State) : (okEnd s).KN = s.KN := rfl
@[simp] theorem okEnd_HC (s : State) : (okEnd s).HC = s.HC := rfl
@[simp] theorem okEnd_STATUS (s : State) : (okEnd s).STATUS = { s.STATUS with BUSY := false, DONE := true } := rfl
@[simp] theorem okEnd_PWD_LEN (s : State) : (okEnd s).PWD_LEN = s.PWD_LEN := rfl
@[simp] theorem okEnd_IN_LEN (s : State) : (okEnd s).IN_LEN = s.IN_LEN := rfl
@[simp] theorem okEnd_OUT_LEN (s : State) : (okEnd s).OUT_LEN = s.OUT_LEN := rfl
@[simp] theorem okEnd_PWD (s : State) : (okEnd s).PWD = s.PWD := rfl
@[simp] theorem okEnd_IN (s : State) : (okEnd s).IN = s.IN := rfl
@[simp] theorem okEnd_OUT (s : State) : (okEnd s).OUT = s.OUT := rfl
@[simp] theorem okEnd_platform (s : State) : (okEnd s).platform = s.platform := rfl
@[simp] theorem okEnd_turns (s : State) : (okEnd s).turns = s.turns := rfl
@[simp] theorem okEnd_readData (s : State) : (okEnd s).readData = s.readData := rfl
@[simp] theorem okEnd_rngAnswers (s : State) : (okEnd s).rngAnswers = s.rngAnswers := rfl
@[simp] theorem okEnd_drawn (s : State) : (okEnd s).drawn = s.drawn := rfl
@[simp] theorem okEnd_epoch (s : State) : (okEnd s).epoch = s.epoch := rfl

@[simp] theorem errorEnd_A (e : ErrCode) (s : State) : (errorEnd e s).A = s.A := rfl
@[simp] theorem errorEnd_B (e : ErrCode) (s : State) : (errorEnd e s).B = s.B := rfl
@[simp] theorem errorEnd_X (e : ErrCode) (s : State) : (errorEnd e s).X = s.X := rfl
@[simp] theorem errorEnd_Y (e : ErrCode) (s : State) : (errorEnd e s).Y = s.Y := rfl
@[simp] theorem errorEnd_CV0 (e : ErrCode) (s : State) : (errorEnd e s).CV0 = s.CV0 := rfl
@[simp] theorem errorEnd_CV1 (e : ErrCode) (s : State) : (errorEnd e s).CV1 = s.CV1 := rfl
@[simp] theorem errorEnd_KA (e : ErrCode) (s : State) : (errorEnd e s).KA = s.KA := rfl
@[simp] theorem errorEnd_KB (e : ErrCode) (s : State) : (errorEnd e s).KB = s.KB := rfl
@[simp] theorem errorEnd_WSEL (e : ErrCode) (s : State) : (errorEnd e s).WSEL = s.WSEL := rfl
@[simp] theorem errorEnd_R (e : ErrCode) (s : State) : (errorEnd e s).R = s.R := rfl
@[simp] theorem errorEnd_KLEN (e : ErrCode) (s : State) : (errorEnd e s).KLEN = s.KLEN := rfl
@[simp] theorem errorEnd_S (e : ErrCode) (s : State) : (errorEnd e s).S = s.S := rfl
@[simp] theorem errorEnd_KEY (e : ErrCode) (s : State) : (errorEnd e s).KEY = s.KEY := rfl
@[simp] theorem errorEnd_L (e : ErrCode) (s : State) : (errorEnd e s).L = s.L := rfl
@[simp] theorem errorEnd_HBUF (e : ErrCode) (s : State) : (errorEnd e s).HBUF = s.HBUF := rfl
@[simp] theorem errorEnd_PHASE (e : ErrCode) (s : State) : (errorEnd e s).PHASE = .IDLE := rfl
@[simp] theorem errorEnd_OPR (e : ErrCode) (s : State) : (errorEnd e s).OPR = s.OPR := rfl
@[simp] theorem errorEnd_RC (e : ErrCode) (s : State) : (errorEnd e s).RC = s.RC := rfl
@[simp] theorem errorEnd_BI (e : ErrCode) (s : State) : (errorEnd e s).BI = s.BI := rfl
@[simp] theorem errorEnd_KI (e : ErrCode) (s : State) : (errorEnd e s).KI = s.KI := rfl
@[simp] theorem errorEnd_KJ (e : ErrCode) (s : State) : (errorEnd e s).KJ = s.KJ := rfl
@[simp] theorem errorEnd_KN (e : ErrCode) (s : State) : (errorEnd e s).KN = s.KN := rfl
@[simp] theorem errorEnd_HC (e : ErrCode) (s : State) : (errorEnd e s).HC = s.HC := rfl
@[simp] theorem errorEnd_STATUS (e : ErrCode) (s : State) :
    (errorEnd e s).STATUS = { s.STATUS with BUSY := false, DONE := true, ERR := true, ERRCODE := errNumber e } := rfl
@[simp] theorem errorEnd_PWD_LEN (e : ErrCode) (s : State) : (errorEnd e s).PWD_LEN = s.PWD_LEN := rfl
@[simp] theorem errorEnd_IN_LEN (e : ErrCode) (s : State) : (errorEnd e s).IN_LEN = s.IN_LEN := rfl
@[simp] theorem errorEnd_OUT_LEN (e : ErrCode) (s : State) : (errorEnd e s).OUT_LEN = s.OUT_LEN := rfl
@[simp] theorem errorEnd_PWD (e : ErrCode) (s : State) : (errorEnd e s).PWD = s.PWD := rfl
@[simp] theorem errorEnd_IN (e : ErrCode) (s : State) : (errorEnd e s).IN = s.IN := rfl
@[simp] theorem errorEnd_OUT (e : ErrCode) (s : State) : (errorEnd e s).OUT = s.OUT := rfl
@[simp] theorem errorEnd_platform (e : ErrCode) (s : State) : (errorEnd e s).platform = s.platform := rfl
@[simp] theorem errorEnd_turns (e : ErrCode) (s : State) : (errorEnd e s).turns = s.turns := rfl
@[simp] theorem errorEnd_readData (e : ErrCode) (s : State) : (errorEnd e s).readData = s.readData := rfl
@[simp] theorem errorEnd_rngAnswers (e : ErrCode) (s : State) : (errorEnd e s).rngAnswers = s.rngAnswers := rfl
@[simp] theorem errorEnd_drawn (e : ErrCode) (s : State) : (errorEnd e s).drawn = s.drawn := rfl
@[simp] theorem errorEnd_epoch (e : ErrCode) (s : State) : (errorEnd e s).epoch = s.epoch := rfl

@[simp] theorem refuseAccess_A (s : State) : (refuseAccess s).A = s.A := rfl
@[simp] theorem refuseAccess_B (s : State) : (refuseAccess s).B = s.B := rfl
@[simp] theorem refuseAccess_X (s : State) : (refuseAccess s).X = s.X := rfl
@[simp] theorem refuseAccess_Y (s : State) : (refuseAccess s).Y = s.Y := rfl
@[simp] theorem refuseAccess_CV0 (s : State) : (refuseAccess s).CV0 = s.CV0 := rfl
@[simp] theorem refuseAccess_CV1 (s : State) : (refuseAccess s).CV1 = s.CV1 := rfl
@[simp] theorem refuseAccess_KA (s : State) : (refuseAccess s).KA = s.KA := rfl
@[simp] theorem refuseAccess_KB (s : State) : (refuseAccess s).KB = s.KB := rfl
@[simp] theorem refuseAccess_WSEL (s : State) : (refuseAccess s).WSEL = s.WSEL := rfl
@[simp] theorem refuseAccess_R (s : State) : (refuseAccess s).R = s.R := rfl
@[simp] theorem refuseAccess_KLEN (s : State) : (refuseAccess s).KLEN = s.KLEN := rfl
@[simp] theorem refuseAccess_S (s : State) : (refuseAccess s).S = s.S := rfl
@[simp] theorem refuseAccess_KEY (s : State) : (refuseAccess s).KEY = s.KEY := rfl
@[simp] theorem refuseAccess_L (s : State) : (refuseAccess s).L = s.L := rfl
@[simp] theorem refuseAccess_HBUF (s : State) : (refuseAccess s).HBUF = s.HBUF := rfl
@[simp] theorem refuseAccess_PHASE (s : State) : (refuseAccess s).PHASE = s.PHASE := rfl
@[simp] theorem refuseAccess_OPR (s : State) : (refuseAccess s).OPR = s.OPR := rfl
@[simp] theorem refuseAccess_RC (s : State) : (refuseAccess s).RC = s.RC := rfl
@[simp] theorem refuseAccess_BI (s : State) : (refuseAccess s).BI = s.BI := rfl
@[simp] theorem refuseAccess_KI (s : State) : (refuseAccess s).KI = s.KI := rfl
@[simp] theorem refuseAccess_KJ (s : State) : (refuseAccess s).KJ = s.KJ := rfl
@[simp] theorem refuseAccess_KN (s : State) : (refuseAccess s).KN = s.KN := rfl
@[simp] theorem refuseAccess_HC (s : State) : (refuseAccess s).HC = s.HC := rfl
@[simp] theorem refuseAccess_STATUS (s : State) : (refuseAccess s).STATUS = { s.STATUS with HERR := true } := rfl
@[simp] theorem refuseAccess_PWD_LEN (s : State) : (refuseAccess s).PWD_LEN = s.PWD_LEN := rfl
@[simp] theorem refuseAccess_IN_LEN (s : State) : (refuseAccess s).IN_LEN = s.IN_LEN := rfl
@[simp] theorem refuseAccess_OUT_LEN (s : State) : (refuseAccess s).OUT_LEN = s.OUT_LEN := rfl
@[simp] theorem refuseAccess_PWD (s : State) : (refuseAccess s).PWD = s.PWD := rfl
@[simp] theorem refuseAccess_IN (s : State) : (refuseAccess s).IN = s.IN := rfl
@[simp] theorem refuseAccess_OUT (s : State) : (refuseAccess s).OUT = s.OUT := rfl
@[simp] theorem refuseAccess_platform (s : State) : (refuseAccess s).platform = s.platform := rfl
@[simp] theorem refuseAccess_turns (s : State) : (refuseAccess s).turns = s.turns := rfl
@[simp] theorem refuseAccess_readData (s : State) : (refuseAccess s).readData = s.readData := rfl
@[simp] theorem refuseAccess_rngAnswers (s : State) : (refuseAccess s).rngAnswers = s.rngAnswers := rfl
@[simp] theorem refuseAccess_drawn (s : State) : (refuseAccess s).drawn = s.drawn := rfl
@[simp] theorem refuseAccess_epoch (s : State) : (refuseAccess s).epoch = s.epoch := rfl

@[simp] theorem toPhase_A (p : Phase) (s : State) : (toPhase p s).A = s.A := rfl
@[simp] theorem toPhase_B (p : Phase) (s : State) : (toPhase p s).B = s.B := rfl
@[simp] theorem toPhase_X (p : Phase) (s : State) : (toPhase p s).X = s.X := rfl
@[simp] theorem toPhase_Y (p : Phase) (s : State) : (toPhase p s).Y = s.Y := rfl
@[simp] theorem toPhase_CV0 (p : Phase) (s : State) : (toPhase p s).CV0 = s.CV0 := rfl
@[simp] theorem toPhase_CV1 (p : Phase) (s : State) : (toPhase p s).CV1 = s.CV1 := rfl
@[simp] theorem toPhase_KA (p : Phase) (s : State) : (toPhase p s).KA = s.KA := rfl
@[simp] theorem toPhase_KB (p : Phase) (s : State) : (toPhase p s).KB = s.KB := rfl
@[simp] theorem toPhase_WSEL (p : Phase) (s : State) : (toPhase p s).WSEL = s.WSEL := rfl
@[simp] theorem toPhase_R (p : Phase) (s : State) : (toPhase p s).R = s.R := rfl
@[simp] theorem toPhase_KLEN (p : Phase) (s : State) : (toPhase p s).KLEN = s.KLEN := rfl
@[simp] theorem toPhase_S (p : Phase) (s : State) : (toPhase p s).S = s.S := rfl
@[simp] theorem toPhase_KEY (p : Phase) (s : State) : (toPhase p s).KEY = s.KEY := rfl
@[simp] theorem toPhase_L (p : Phase) (s : State) : (toPhase p s).L = s.L := rfl
@[simp] theorem toPhase_HBUF (p : Phase) (s : State) : (toPhase p s).HBUF = s.HBUF := rfl
@[simp] theorem toPhase_PHASE (p : Phase) (s : State) : (toPhase p s).PHASE = p := rfl
@[simp] theorem toPhase_OPR (p : Phase) (s : State) : (toPhase p s).OPR = s.OPR := rfl
@[simp] theorem toPhase_RC (p : Phase) (s : State) : (toPhase p s).RC = s.RC := rfl
@[simp] theorem toPhase_BI (p : Phase) (s : State) : (toPhase p s).BI = s.BI := rfl
@[simp] theorem toPhase_KI (p : Phase) (s : State) : (toPhase p s).KI = s.KI := rfl
@[simp] theorem toPhase_KJ (p : Phase) (s : State) : (toPhase p s).KJ = s.KJ := rfl
@[simp] theorem toPhase_KN (p : Phase) (s : State) : (toPhase p s).KN = s.KN := rfl
@[simp] theorem toPhase_HC (p : Phase) (s : State) : (toPhase p s).HC = s.HC := rfl
@[simp] theorem toPhase_STATUS (p : Phase) (s : State) : (toPhase p s).STATUS = s.STATUS := rfl
@[simp] theorem toPhase_PWD_LEN (p : Phase) (s : State) : (toPhase p s).PWD_LEN = s.PWD_LEN := rfl
@[simp] theorem toPhase_IN_LEN (p : Phase) (s : State) : (toPhase p s).IN_LEN = s.IN_LEN := rfl
@[simp] theorem toPhase_OUT_LEN (p : Phase) (s : State) : (toPhase p s).OUT_LEN = s.OUT_LEN := rfl
@[simp] theorem toPhase_PWD (p : Phase) (s : State) : (toPhase p s).PWD = s.PWD := rfl
@[simp] theorem toPhase_IN (p : Phase) (s : State) : (toPhase p s).IN = s.IN := rfl
@[simp] theorem toPhase_OUT (p : Phase) (s : State) : (toPhase p s).OUT = s.OUT := rfl
@[simp] theorem toPhase_platform (p : Phase) (s : State) : (toPhase p s).platform = s.platform := rfl
@[simp] theorem toPhase_turns (p : Phase) (s : State) : (toPhase p s).turns = s.turns := rfl
@[simp] theorem toPhase_readData (p : Phase) (s : State) : (toPhase p s).readData = s.readData := rfl
@[simp] theorem toPhase_rngAnswers (p : Phase) (s : State) : (toPhase p s).rngAnswers = s.rngAnswers := rfl
@[simp] theorem toPhase_drawn (p : Phase) (s : State) : (toPhase p s).drawn = s.drawn := rfl
@[simp] theorem toPhase_epoch (p : Phase) (s : State) : (toPhase p s).epoch = s.epoch := rfl

@[simp] theorem setXY_A (p : Word × Word) (s : State) : (setXY p s).A = s.A := rfl
@[simp] theorem setXY_B (p : Word × Word) (s : State) : (setXY p s).B = s.B := rfl
@[simp] theorem setXY_X (p : Word × Word) (s : State) : (setXY p s).X = p.1 := rfl
@[simp] theorem setXY_Y (p : Word × Word) (s : State) : (setXY p s).Y = p.2 := rfl
@[simp] theorem setXY_CV0 (p : Word × Word) (s : State) : (setXY p s).CV0 = s.CV0 := rfl
@[simp] theorem setXY_CV1 (p : Word × Word) (s : State) : (setXY p s).CV1 = s.CV1 := rfl
@[simp] theorem setXY_KA (p : Word × Word) (s : State) : (setXY p s).KA = s.KA := rfl
@[simp] theorem setXY_KB (p : Word × Word) (s : State) : (setXY p s).KB = s.KB := rfl
@[simp] theorem setXY_WSEL (p : Word × Word) (s : State) : (setXY p s).WSEL = s.WSEL := rfl
@[simp] theorem setXY_R (p : Word × Word) (s : State) : (setXY p s).R = s.R := rfl
@[simp] theorem setXY_KLEN (p : Word × Word) (s : State) : (setXY p s).KLEN = s.KLEN := rfl
@[simp] theorem setXY_S (p : Word × Word) (s : State) : (setXY p s).S = s.S := rfl
@[simp] theorem setXY_KEY (p : Word × Word) (s : State) : (setXY p s).KEY = s.KEY := rfl
@[simp] theorem setXY_L (p : Word × Word) (s : State) : (setXY p s).L = s.L := rfl
@[simp] theorem setXY_HBUF (p : Word × Word) (s : State) : (setXY p s).HBUF = s.HBUF := rfl
@[simp] theorem setXY_PHASE (p : Word × Word) (s : State) : (setXY p s).PHASE = s.PHASE := rfl
@[simp] theorem setXY_OPR (p : Word × Word) (s : State) : (setXY p s).OPR = s.OPR := rfl
@[simp] theorem setXY_RC (p : Word × Word) (s : State) : (setXY p s).RC = s.RC := rfl
@[simp] theorem setXY_BI (p : Word × Word) (s : State) : (setXY p s).BI = s.BI := rfl
@[simp] theorem setXY_KI (p : Word × Word) (s : State) : (setXY p s).KI = s.KI := rfl
@[simp] theorem setXY_KJ (p : Word × Word) (s : State) : (setXY p s).KJ = s.KJ := rfl
@[simp] theorem setXY_KN (p : Word × Word) (s : State) : (setXY p s).KN = s.KN := rfl
@[simp] theorem setXY_HC (p : Word × Word) (s : State) : (setXY p s).HC = s.HC := rfl
@[simp] theorem setXY_STATUS (p : Word × Word) (s : State) : (setXY p s).STATUS = s.STATUS := rfl
@[simp] theorem setXY_PWD_LEN (p : Word × Word) (s : State) : (setXY p s).PWD_LEN = s.PWD_LEN := rfl
@[simp] theorem setXY_IN_LEN (p : Word × Word) (s : State) : (setXY p s).IN_LEN = s.IN_LEN := rfl
@[simp] theorem setXY_OUT_LEN (p : Word × Word) (s : State) : (setXY p s).OUT_LEN = s.OUT_LEN := rfl
@[simp] theorem setXY_PWD (p : Word × Word) (s : State) : (setXY p s).PWD = s.PWD := rfl
@[simp] theorem setXY_IN (p : Word × Word) (s : State) : (setXY p s).IN = s.IN := rfl
@[simp] theorem setXY_OUT (p : Word × Word) (s : State) : (setXY p s).OUT = s.OUT := rfl
@[simp] theorem setXY_platform (p : Word × Word) (s : State) : (setXY p s).platform = s.platform := rfl
@[simp] theorem setXY_turns (p : Word × Word) (s : State) : (setXY p s).turns = s.turns := rfl
@[simp] theorem setXY_readData (p : Word × Word) (s : State) : (setXY p s).readData = s.readData := rfl
@[simp] theorem setXY_rngAnswers (p : Word × Word) (s : State) : (setXY p s).rngAnswers = s.rngAnswers := rfl
@[simp] theorem setXY_drawn (p : Word × Word) (s : State) : (setXY p s).drawn = s.drawn := rfl
@[simp] theorem setXY_epoch (p : Word × Word) (s : State) : (setXY p s).epoch = s.epoch := rfl

@[simp] theorem setCV_A (p : Word × Word) (s : State) : (setCV p s).A = s.A := rfl
@[simp] theorem setCV_B (p : Word × Word) (s : State) : (setCV p s).B = s.B := rfl
@[simp] theorem setCV_X (p : Word × Word) (s : State) : (setCV p s).X = s.X := rfl
@[simp] theorem setCV_Y (p : Word × Word) (s : State) : (setCV p s).Y = s.Y := rfl
@[simp] theorem setCV_CV0 (p : Word × Word) (s : State) : (setCV p s).CV0 = p.1 := rfl
@[simp] theorem setCV_CV1 (p : Word × Word) (s : State) : (setCV p s).CV1 = p.2 := rfl
@[simp] theorem setCV_KA (p : Word × Word) (s : State) : (setCV p s).KA = s.KA := rfl
@[simp] theorem setCV_KB (p : Word × Word) (s : State) : (setCV p s).KB = s.KB := rfl
@[simp] theorem setCV_WSEL (p : Word × Word) (s : State) : (setCV p s).WSEL = s.WSEL := rfl
@[simp] theorem setCV_R (p : Word × Word) (s : State) : (setCV p s).R = s.R := rfl
@[simp] theorem setCV_KLEN (p : Word × Word) (s : State) : (setCV p s).KLEN = s.KLEN := rfl
@[simp] theorem setCV_S (p : Word × Word) (s : State) : (setCV p s).S = s.S := rfl
@[simp] theorem setCV_KEY (p : Word × Word) (s : State) : (setCV p s).KEY = s.KEY := rfl
@[simp] theorem setCV_L (p : Word × Word) (s : State) : (setCV p s).L = s.L := rfl
@[simp] theorem setCV_HBUF (p : Word × Word) (s : State) : (setCV p s).HBUF = s.HBUF := rfl
@[simp] theorem setCV_PHASE (p : Word × Word) (s : State) : (setCV p s).PHASE = s.PHASE := rfl
@[simp] theorem setCV_OPR (p : Word × Word) (s : State) : (setCV p s).OPR = s.OPR := rfl
@[simp] theorem setCV_RC (p : Word × Word) (s : State) : (setCV p s).RC = s.RC := rfl
@[simp] theorem setCV_BI (p : Word × Word) (s : State) : (setCV p s).BI = s.BI := rfl
@[simp] theorem setCV_KI (p : Word × Word) (s : State) : (setCV p s).KI = s.KI := rfl
@[simp] theorem setCV_KJ (p : Word × Word) (s : State) : (setCV p s).KJ = s.KJ := rfl
@[simp] theorem setCV_KN (p : Word × Word) (s : State) : (setCV p s).KN = s.KN := rfl
@[simp] theorem setCV_HC (p : Word × Word) (s : State) : (setCV p s).HC = s.HC := rfl
@[simp] theorem setCV_STATUS (p : Word × Word) (s : State) : (setCV p s).STATUS = s.STATUS := rfl
@[simp] theorem setCV_PWD_LEN (p : Word × Word) (s : State) : (setCV p s).PWD_LEN = s.PWD_LEN := rfl
@[simp] theorem setCV_IN_LEN (p : Word × Word) (s : State) : (setCV p s).IN_LEN = s.IN_LEN := rfl
@[simp] theorem setCV_OUT_LEN (p : Word × Word) (s : State) : (setCV p s).OUT_LEN = s.OUT_LEN := rfl
@[simp] theorem setCV_PWD (p : Word × Word) (s : State) : (setCV p s).PWD = s.PWD := rfl
@[simp] theorem setCV_IN (p : Word × Word) (s : State) : (setCV p s).IN = s.IN := rfl
@[simp] theorem setCV_OUT (p : Word × Word) (s : State) : (setCV p s).OUT = s.OUT := rfl
@[simp] theorem setCV_platform (p : Word × Word) (s : State) : (setCV p s).platform = s.platform := rfl
@[simp] theorem setCV_turns (p : Word × Word) (s : State) : (setCV p s).turns = s.turns := rfl
@[simp] theorem setCV_readData (p : Word × Word) (s : State) : (setCV p s).readData = s.readData := rfl
@[simp] theorem setCV_rngAnswers (p : Word × Word) (s : State) : (setCV p s).rngAnswers = s.rngAnswers := rfl
@[simp] theorem setCV_drawn (p : Word × Word) (s : State) : (setCV p s).drawn = s.drawn := rfl
@[simp] theorem setCV_epoch (p : Word × Word) (s : State) : (setCV p s).epoch = s.epoch := rfl

@[simp] theorem setOutLen_A (n : Nat) (s : State) : (setOutLen n s).A = s.A := rfl
@[simp] theorem setOutLen_B (n : Nat) (s : State) : (setOutLen n s).B = s.B := rfl
@[simp] theorem setOutLen_X (n : Nat) (s : State) : (setOutLen n s).X = s.X := rfl
@[simp] theorem setOutLen_Y (n : Nat) (s : State) : (setOutLen n s).Y = s.Y := rfl
@[simp] theorem setOutLen_CV0 (n : Nat) (s : State) : (setOutLen n s).CV0 = s.CV0 := rfl
@[simp] theorem setOutLen_CV1 (n : Nat) (s : State) : (setOutLen n s).CV1 = s.CV1 := rfl
@[simp] theorem setOutLen_KA (n : Nat) (s : State) : (setOutLen n s).KA = s.KA := rfl
@[simp] theorem setOutLen_KB (n : Nat) (s : State) : (setOutLen n s).KB = s.KB := rfl
@[simp] theorem setOutLen_WSEL (n : Nat) (s : State) : (setOutLen n s).WSEL = s.WSEL := rfl
@[simp] theorem setOutLen_R (n : Nat) (s : State) : (setOutLen n s).R = s.R := rfl
@[simp] theorem setOutLen_KLEN (n : Nat) (s : State) : (setOutLen n s).KLEN = s.KLEN := rfl
@[simp] theorem setOutLen_S (n : Nat) (s : State) : (setOutLen n s).S = s.S := rfl
@[simp] theorem setOutLen_KEY (n : Nat) (s : State) : (setOutLen n s).KEY = s.KEY := rfl
@[simp] theorem setOutLen_L (n : Nat) (s : State) : (setOutLen n s).L = s.L := rfl
@[simp] theorem setOutLen_HBUF (n : Nat) (s : State) : (setOutLen n s).HBUF = s.HBUF := rfl
@[simp] theorem setOutLen_PHASE (n : Nat) (s : State) : (setOutLen n s).PHASE = s.PHASE := rfl
@[simp] theorem setOutLen_OPR (n : Nat) (s : State) : (setOutLen n s).OPR = s.OPR := rfl
@[simp] theorem setOutLen_RC (n : Nat) (s : State) : (setOutLen n s).RC = s.RC := rfl
@[simp] theorem setOutLen_BI (n : Nat) (s : State) : (setOutLen n s).BI = s.BI := rfl
@[simp] theorem setOutLen_KI (n : Nat) (s : State) : (setOutLen n s).KI = s.KI := rfl
@[simp] theorem setOutLen_KJ (n : Nat) (s : State) : (setOutLen n s).KJ = s.KJ := rfl
@[simp] theorem setOutLen_KN (n : Nat) (s : State) : (setOutLen n s).KN = s.KN := rfl
@[simp] theorem setOutLen_HC (n : Nat) (s : State) : (setOutLen n s).HC = s.HC := rfl
@[simp] theorem setOutLen_STATUS (n : Nat) (s : State) : (setOutLen n s).STATUS = s.STATUS := rfl
@[simp] theorem setOutLen_PWD_LEN (n : Nat) (s : State) : (setOutLen n s).PWD_LEN = s.PWD_LEN := rfl
@[simp] theorem setOutLen_IN_LEN (n : Nat) (s : State) : (setOutLen n s).IN_LEN = s.IN_LEN := rfl
@[simp] theorem setOutLen_OUT_LEN (n : Nat) (s : State) : (setOutLen n s).OUT_LEN = BitVec.ofNat 32 n := rfl
@[simp] theorem setOutLen_PWD (n : Nat) (s : State) : (setOutLen n s).PWD = s.PWD := rfl
@[simp] theorem setOutLen_IN (n : Nat) (s : State) : (setOutLen n s).IN = s.IN := rfl
@[simp] theorem setOutLen_OUT (n : Nat) (s : State) : (setOutLen n s).OUT = s.OUT := rfl
@[simp] theorem setOutLen_platform (n : Nat) (s : State) : (setOutLen n s).platform = s.platform := rfl
@[simp] theorem setOutLen_turns (n : Nat) (s : State) : (setOutLen n s).turns = s.turns := rfl
@[simp] theorem setOutLen_readData (n : Nat) (s : State) : (setOutLen n s).readData = s.readData := rfl
@[simp] theorem setOutLen_rngAnswers (n : Nat) (s : State) : (setOutLen n s).rngAnswers = s.rngAnswers := rfl
@[simp] theorem setOutLen_drawn (n : Nat) (s : State) : (setOutLen n s).drawn = s.drawn := rfl
@[simp] theorem setOutLen_epoch (n : Nat) (s : State) : (setOutLen n s).epoch = s.epoch := rfl

@[simp] theorem setPadnv_A (nv : Bool) (s : State) : (setPadnv nv s).A = s.A := rfl
@[simp] theorem setPadnv_B (nv : Bool) (s : State) : (setPadnv nv s).B = s.B := rfl
@[simp] theorem setPadnv_X (nv : Bool) (s : State) : (setPadnv nv s).X = s.X := rfl
@[simp] theorem setPadnv_Y (nv : Bool) (s : State) : (setPadnv nv s).Y = s.Y := rfl
@[simp] theorem setPadnv_CV0 (nv : Bool) (s : State) : (setPadnv nv s).CV0 = s.CV0 := rfl
@[simp] theorem setPadnv_CV1 (nv : Bool) (s : State) : (setPadnv nv s).CV1 = s.CV1 := rfl
@[simp] theorem setPadnv_KA (nv : Bool) (s : State) : (setPadnv nv s).KA = s.KA := rfl
@[simp] theorem setPadnv_KB (nv : Bool) (s : State) : (setPadnv nv s).KB = s.KB := rfl
@[simp] theorem setPadnv_WSEL (nv : Bool) (s : State) : (setPadnv nv s).WSEL = s.WSEL := rfl
@[simp] theorem setPadnv_R (nv : Bool) (s : State) : (setPadnv nv s).R = s.R := rfl
@[simp] theorem setPadnv_KLEN (nv : Bool) (s : State) : (setPadnv nv s).KLEN = s.KLEN := rfl
@[simp] theorem setPadnv_S (nv : Bool) (s : State) : (setPadnv nv s).S = s.S := rfl
@[simp] theorem setPadnv_KEY (nv : Bool) (s : State) : (setPadnv nv s).KEY = s.KEY := rfl
@[simp] theorem setPadnv_L (nv : Bool) (s : State) : (setPadnv nv s).L = s.L := rfl
@[simp] theorem setPadnv_HBUF (nv : Bool) (s : State) : (setPadnv nv s).HBUF = s.HBUF := rfl
@[simp] theorem setPadnv_PHASE (nv : Bool) (s : State) : (setPadnv nv s).PHASE = s.PHASE := rfl
@[simp] theorem setPadnv_OPR (nv : Bool) (s : State) : (setPadnv nv s).OPR = s.OPR := rfl
@[simp] theorem setPadnv_RC (nv : Bool) (s : State) : (setPadnv nv s).RC = s.RC := rfl
@[simp] theorem setPadnv_BI (nv : Bool) (s : State) : (setPadnv nv s).BI = s.BI := rfl
@[simp] theorem setPadnv_KI (nv : Bool) (s : State) : (setPadnv nv s).KI = s.KI := rfl
@[simp] theorem setPadnv_KJ (nv : Bool) (s : State) : (setPadnv nv s).KJ = s.KJ := rfl
@[simp] theorem setPadnv_KN (nv : Bool) (s : State) : (setPadnv nv s).KN = s.KN := rfl
@[simp] theorem setPadnv_HC (nv : Bool) (s : State) : (setPadnv nv s).HC = s.HC := rfl
@[simp] theorem setPadnv_STATUS (nv : Bool) (s : State) :
    (setPadnv nv s).STATUS = { s.STATUS with PADNV := nv } := rfl
@[simp] theorem setPadnv_PWD_LEN (nv : Bool) (s : State) : (setPadnv nv s).PWD_LEN = s.PWD_LEN := rfl
@[simp] theorem setPadnv_IN_LEN (nv : Bool) (s : State) : (setPadnv nv s).IN_LEN = s.IN_LEN := rfl
@[simp] theorem setPadnv_OUT_LEN (nv : Bool) (s : State) : (setPadnv nv s).OUT_LEN = s.OUT_LEN := rfl
@[simp] theorem setPadnv_PWD (nv : Bool) (s : State) : (setPadnv nv s).PWD = s.PWD := rfl
@[simp] theorem setPadnv_IN (nv : Bool) (s : State) : (setPadnv nv s).IN = s.IN := rfl
@[simp] theorem setPadnv_OUT (nv : Bool) (s : State) : (setPadnv nv s).OUT = s.OUT := rfl
@[simp] theorem setPadnv_platform (nv : Bool) (s : State) : (setPadnv nv s).platform = s.platform := rfl
@[simp] theorem setPadnv_turns (nv : Bool) (s : State) : (setPadnv nv s).turns = s.turns := rfl
@[simp] theorem setPadnv_readData (nv : Bool) (s : State) : (setPadnv nv s).readData = s.readData := rfl
@[simp] theorem setPadnv_rngAnswers (nv : Bool) (s : State) : (setPadnv nv s).rngAnswers = s.rngAnswers := rfl
@[simp] theorem setPadnv_drawn (nv : Bool) (s : State) : (setPadnv nv s).drawn = s.drawn := rfl
@[simp] theorem setPadnv_epoch (nv : Bool) (s : State) : (setPadnv nv s).epoch = s.epoch := rfl

@[simp] theorem setKeyed_A (s : State) : (setKeyed s).A = s.A := rfl
@[simp] theorem setKeyed_B (s : State) : (setKeyed s).B = s.B := rfl
@[simp] theorem setKeyed_X (s : State) : (setKeyed s).X = s.X := rfl
@[simp] theorem setKeyed_Y (s : State) : (setKeyed s).Y = s.Y := rfl
@[simp] theorem setKeyed_CV0 (s : State) : (setKeyed s).CV0 = s.CV0 := rfl
@[simp] theorem setKeyed_CV1 (s : State) : (setKeyed s).CV1 = s.CV1 := rfl
@[simp] theorem setKeyed_KA (s : State) : (setKeyed s).KA = s.KA := rfl
@[simp] theorem setKeyed_KB (s : State) : (setKeyed s).KB = s.KB := rfl
@[simp] theorem setKeyed_WSEL (s : State) : (setKeyed s).WSEL = s.WSEL := rfl
@[simp] theorem setKeyed_R (s : State) : (setKeyed s).R = s.R := rfl
@[simp] theorem setKeyed_KLEN (s : State) : (setKeyed s).KLEN = s.KLEN := rfl
@[simp] theorem setKeyed_S (s : State) : (setKeyed s).S = s.S := rfl
@[simp] theorem setKeyed_KEY (s : State) : (setKeyed s).KEY = s.KEY := rfl
@[simp] theorem setKeyed_L (s : State) : (setKeyed s).L = s.L := rfl
@[simp] theorem setKeyed_HBUF (s : State) : (setKeyed s).HBUF = s.HBUF := rfl
@[simp] theorem setKeyed_PHASE (s : State) : (setKeyed s).PHASE = s.PHASE := rfl
@[simp] theorem setKeyed_OPR (s : State) : (setKeyed s).OPR = s.OPR := rfl
@[simp] theorem setKeyed_RC (s : State) : (setKeyed s).RC = s.RC := rfl
@[simp] theorem setKeyed_BI (s : State) : (setKeyed s).BI = s.BI := rfl
@[simp] theorem setKeyed_KI (s : State) : (setKeyed s).KI = s.KI := rfl
@[simp] theorem setKeyed_KJ (s : State) : (setKeyed s).KJ = s.KJ := rfl
@[simp] theorem setKeyed_KN (s : State) : (setKeyed s).KN = s.KN := rfl
@[simp] theorem setKeyed_HC (s : State) : (setKeyed s).HC = s.HC := rfl
@[simp] theorem setKeyed_STATUS (s : State) : (setKeyed s).STATUS = { s.STATUS with KEYED := true } := rfl
@[simp] theorem setKeyed_PWD_LEN (s : State) : (setKeyed s).PWD_LEN = s.PWD_LEN := rfl
@[simp] theorem setKeyed_IN_LEN (s : State) : (setKeyed s).IN_LEN = s.IN_LEN := rfl
@[simp] theorem setKeyed_OUT_LEN (s : State) : (setKeyed s).OUT_LEN = s.OUT_LEN := rfl
@[simp] theorem setKeyed_PWD (s : State) : (setKeyed s).PWD = s.PWD := rfl
@[simp] theorem setKeyed_IN (s : State) : (setKeyed s).IN = s.IN := rfl
@[simp] theorem setKeyed_OUT (s : State) : (setKeyed s).OUT = s.OUT := rfl
@[simp] theorem setKeyed_platform (s : State) : (setKeyed s).platform = s.platform := rfl
@[simp] theorem setKeyed_turns (s : State) : (setKeyed s).turns = s.turns := rfl
@[simp] theorem setKeyed_readData (s : State) : (setKeyed s).readData = s.readData := rfl
@[simp] theorem setKeyed_rngAnswers (s : State) : (setKeyed s).rngAnswers = s.rngAnswers := rfl
@[simp] theorem setKeyed_drawn (s : State) : (setKeyed s).drawn = s.drawn := rfl
@[simp] theorem setKeyed_epoch (s : State) : (setKeyed s).epoch = s.epoch := rfl

@[simp] theorem memWrite_A (b : Buf) (off : Nat) (xs : List Byte) (s : State) :
    (memWrite b off xs s).A = s.A := by cases b <;> rfl
@[simp] theorem memWrite_B (b : Buf) (off : Nat) (xs : List Byte) (s : State) :
    (memWrite b off xs s).B = s.B := by cases b <;> rfl
@[simp] theorem memWrite_X (b : Buf) (off : Nat) (xs : List Byte) (s : State) :
    (memWrite b off xs s).X = s.X := by cases b <;> rfl
@[simp] theorem memWrite_Y (b : Buf) (off : Nat) (xs : List Byte) (s : State) :
    (memWrite b off xs s).Y = s.Y := by cases b <;> rfl
@[simp] theorem memWrite_CV0 (b : Buf) (off : Nat) (xs : List Byte) (s : State) :
    (memWrite b off xs s).CV0 = s.CV0 := by cases b <;> rfl
@[simp] theorem memWrite_CV1 (b : Buf) (off : Nat) (xs : List Byte) (s : State) :
    (memWrite b off xs s).CV1 = s.CV1 := by cases b <;> rfl
@[simp] theorem memWrite_KA (b : Buf) (off : Nat) (xs : List Byte) (s : State) :
    (memWrite b off xs s).KA = s.KA := by cases b <;> rfl
@[simp] theorem memWrite_KB (b : Buf) (off : Nat) (xs : List Byte) (s : State) :
    (memWrite b off xs s).KB = s.KB := by cases b <;> rfl
@[simp] theorem memWrite_WSEL (b : Buf) (off : Nat) (xs : List Byte) (s : State) :
    (memWrite b off xs s).WSEL = s.WSEL := by cases b <;> rfl
@[simp] theorem memWrite_R (b : Buf) (off : Nat) (xs : List Byte) (s : State) :
    (memWrite b off xs s).R = s.R := by cases b <;> rfl
@[simp] theorem memWrite_KLEN (b : Buf) (off : Nat) (xs : List Byte) (s : State) :
    (memWrite b off xs s).KLEN = s.KLEN := by cases b <;> rfl
@[simp] theorem memWrite_S (b : Buf) (off : Nat) (xs : List Byte) (s : State) :
    (memWrite b off xs s).S = s.S := by cases b <;> rfl
@[simp] theorem memWrite_KEY (b : Buf) (off : Nat) (xs : List Byte) (s : State) :
    (memWrite b off xs s).KEY = s.KEY := by cases b <;> rfl
@[simp] theorem memWrite_L (b : Buf) (off : Nat) (xs : List Byte) (s : State) :
    (memWrite b off xs s).L = s.L := by cases b <;> rfl
@[simp] theorem memWrite_HBUF (b : Buf) (off : Nat) (xs : List Byte) (s : State) :
    (memWrite b off xs s).HBUF = s.HBUF := by cases b <;> rfl
@[simp] theorem memWrite_PHASE (b : Buf) (off : Nat) (xs : List Byte) (s : State) :
    (memWrite b off xs s).PHASE = s.PHASE := by cases b <;> rfl
@[simp] theorem memWrite_OPR (b : Buf) (off : Nat) (xs : List Byte) (s : State) :
    (memWrite b off xs s).OPR = s.OPR := by cases b <;> rfl
@[simp] theorem memWrite_RC (b : Buf) (off : Nat) (xs : List Byte) (s : State) :
    (memWrite b off xs s).RC = s.RC := by cases b <;> rfl
@[simp] theorem memWrite_BI (b : Buf) (off : Nat) (xs : List Byte) (s : State) :
    (memWrite b off xs s).BI = s.BI := by cases b <;> rfl
@[simp] theorem memWrite_KI (b : Buf) (off : Nat) (xs : List Byte) (s : State) :
    (memWrite b off xs s).KI = s.KI := by cases b <;> rfl
@[simp] theorem memWrite_KJ (b : Buf) (off : Nat) (xs : List Byte) (s : State) :
    (memWrite b off xs s).KJ = s.KJ := by cases b <;> rfl
@[simp] theorem memWrite_KN (b : Buf) (off : Nat) (xs : List Byte) (s : State) :
    (memWrite b off xs s).KN = s.KN := by cases b <;> rfl
@[simp] theorem memWrite_HC (b : Buf) (off : Nat) (xs : List Byte) (s : State) :
    (memWrite b off xs s).HC = s.HC := by cases b <;> rfl
@[simp] theorem memWrite_STATUS (b : Buf) (off : Nat) (xs : List Byte) (s : State) :
    (memWrite b off xs s).STATUS = s.STATUS := by cases b <;> rfl
@[simp] theorem memWrite_PWD_LEN (b : Buf) (off : Nat) (xs : List Byte) (s : State) :
    (memWrite b off xs s).PWD_LEN = s.PWD_LEN := by cases b <;> rfl
@[simp] theorem memWrite_IN_LEN (b : Buf) (off : Nat) (xs : List Byte) (s : State) :
    (memWrite b off xs s).IN_LEN = s.IN_LEN := by cases b <;> rfl
@[simp] theorem memWrite_OUT_LEN (b : Buf) (off : Nat) (xs : List Byte) (s : State) :
    (memWrite b off xs s).OUT_LEN = s.OUT_LEN := by cases b <;> rfl
@[simp] theorem memWrite_platform (b : Buf) (off : Nat) (xs : List Byte) (s : State) :
    (memWrite b off xs s).platform = s.platform := by cases b <;> rfl
@[simp] theorem memWrite_turns (b : Buf) (off : Nat) (xs : List Byte) (s : State) :
    (memWrite b off xs s).turns = s.turns := by cases b <;> rfl
@[simp] theorem memWrite_readData (b : Buf) (off : Nat) (xs : List Byte) (s : State) :
    (memWrite b off xs s).readData = s.readData := by cases b <;> rfl
@[simp] theorem memWrite_rngAnswers (b : Buf) (off : Nat) (xs : List Byte) (s : State) :
    (memWrite b off xs s).rngAnswers = s.rngAnswers := by cases b <;> rfl
@[simp] theorem memWrite_drawn (b : Buf) (off : Nat) (xs : List Byte) (s : State) :
    (memWrite b off xs s).drawn = s.drawn := by cases b <;> rfl
@[simp] theorem memWrite_epoch (b : Buf) (off : Nat) (xs : List Byte) (s : State) :
    (memWrite b off xs s).epoch = s.epoch := by cases b <;> rfl

@[simp] theorem storePair_A (off : Nat) (v0 v1 : Word) (s : State) :
    (storePair off v0 v1 s).A = s.A := rfl
@[simp] theorem storePair_B (off : Nat) (v0 v1 : Word) (s : State) :
    (storePair off v0 v1 s).B = s.B := rfl
@[simp] theorem storePair_X (off : Nat) (v0 v1 : Word) (s : State) :
    (storePair off v0 v1 s).X = s.X := rfl
@[simp] theorem storePair_Y (off : Nat) (v0 v1 : Word) (s : State) :
    (storePair off v0 v1 s).Y = s.Y := rfl
@[simp] theorem storePair_CV0 (off : Nat) (v0 v1 : Word) (s : State) :
    (storePair off v0 v1 s).CV0 = s.CV0 := rfl
@[simp] theorem storePair_CV1 (off : Nat) (v0 v1 : Word) (s : State) :
    (storePair off v0 v1 s).CV1 = s.CV1 := rfl
@[simp] theorem storePair_KA (off : Nat) (v0 v1 : Word) (s : State) :
    (storePair off v0 v1 s).KA = s.KA := rfl
@[simp] theorem storePair_KB (off : Nat) (v0 v1 : Word) (s : State) :
    (storePair off v0 v1 s).KB = s.KB := rfl
@[simp] theorem storePair_WSEL (off : Nat) (v0 v1 : Word) (s : State) :
    (storePair off v0 v1 s).WSEL = s.WSEL := rfl
@[simp] theorem storePair_R (off : Nat) (v0 v1 : Word) (s : State) :
    (storePair off v0 v1 s).R = s.R := rfl
@[simp] theorem storePair_KLEN (off : Nat) (v0 v1 : Word) (s : State) :
    (storePair off v0 v1 s).KLEN = s.KLEN := rfl
@[simp] theorem storePair_S (off : Nat) (v0 v1 : Word) (s : State) :
    (storePair off v0 v1 s).S = s.S := rfl
@[simp] theorem storePair_KEY (off : Nat) (v0 v1 : Word) (s : State) :
    (storePair off v0 v1 s).KEY = s.KEY := rfl
@[simp] theorem storePair_L (off : Nat) (v0 v1 : Word) (s : State) :
    (storePair off v0 v1 s).L = s.L := rfl
@[simp] theorem storePair_HBUF (off : Nat) (v0 v1 : Word) (s : State) :
    (storePair off v0 v1 s).HBUF = s.HBUF := rfl
@[simp] theorem storePair_PHASE (off : Nat) (v0 v1 : Word) (s : State) :
    (storePair off v0 v1 s).PHASE = s.PHASE := rfl
@[simp] theorem storePair_OPR (off : Nat) (v0 v1 : Word) (s : State) :
    (storePair off v0 v1 s).OPR = s.OPR := rfl
@[simp] theorem storePair_RC (off : Nat) (v0 v1 : Word) (s : State) :
    (storePair off v0 v1 s).RC = s.RC := rfl
@[simp] theorem storePair_BI (off : Nat) (v0 v1 : Word) (s : State) :
    (storePair off v0 v1 s).BI = s.BI := rfl
@[simp] theorem storePair_KI (off : Nat) (v0 v1 : Word) (s : State) :
    (storePair off v0 v1 s).KI = s.KI := rfl
@[simp] theorem storePair_KJ (off : Nat) (v0 v1 : Word) (s : State) :
    (storePair off v0 v1 s).KJ = s.KJ := rfl
@[simp] theorem storePair_KN (off : Nat) (v0 v1 : Word) (s : State) :
    (storePair off v0 v1 s).KN = s.KN := rfl
@[simp] theorem storePair_HC (off : Nat) (v0 v1 : Word) (s : State) :
    (storePair off v0 v1 s).HC = s.HC := rfl
@[simp] theorem storePair_STATUS (off : Nat) (v0 v1 : Word) (s : State) :
    (storePair off v0 v1 s).STATUS = s.STATUS := rfl
@[simp] theorem storePair_PWD_LEN (off : Nat) (v0 v1 : Word) (s : State) :
    (storePair off v0 v1 s).PWD_LEN = s.PWD_LEN := rfl
@[simp] theorem storePair_IN_LEN (off : Nat) (v0 v1 : Word) (s : State) :
    (storePair off v0 v1 s).IN_LEN = s.IN_LEN := rfl
@[simp] theorem storePair_OUT_LEN (off : Nat) (v0 v1 : Word) (s : State) :
    (storePair off v0 v1 s).OUT_LEN = s.OUT_LEN := rfl
@[simp] theorem storePair_PWD (off : Nat) (v0 v1 : Word) (s : State) :
    (storePair off v0 v1 s).PWD = s.PWD := rfl
@[simp] theorem storePair_IN (off : Nat) (v0 v1 : Word) (s : State) :
    (storePair off v0 v1 s).IN = s.IN := rfl
@[simp] theorem storePair_OUT (off : Nat) (v0 v1 : Word) (s : State) :
    (storePair off v0 v1 s).OUT = Memory.putBytes s.OUT off (bytesOfPair s.WSEL v0 v1) := rfl
@[simp] theorem storePair_platform (off : Nat) (v0 v1 : Word) (s : State) :
    (storePair off v0 v1 s).platform = s.platform := rfl
@[simp] theorem storePair_turns (off : Nat) (v0 v1 : Word) (s : State) :
    (storePair off v0 v1 s).turns = s.turns := rfl
@[simp] theorem storePair_readData (off : Nat) (v0 v1 : Word) (s : State) :
    (storePair off v0 v1 s).readData = s.readData := rfl
@[simp] theorem storePair_rngAnswers (off : Nat) (v0 v1 : Word) (s : State) :
    (storePair off v0 v1 s).rngAnswers = s.rngAnswers := rfl
@[simp] theorem storePair_drawn (off : Nat) (v0 v1 : Word) (s : State) :
    (storePair off v0 v1 s).drawn = s.drawn := rfl
@[simp] theorem storePair_epoch (off : Nat) (v0 v1 : Word) (s : State) :
    (storePair off v0 v1 s).epoch = s.epoch := rfl

@[simp] theorem rngAdvance_A (s : State) : (rngAdvance s).A = s.A := by
  unfold rngAdvance; split <;> rfl
@[simp] theorem rngAdvance_B (s : State) : (rngAdvance s).B = s.B := by
  unfold rngAdvance; split <;> rfl
@[simp] theorem rngAdvance_X (s : State) : (rngAdvance s).X = s.X := by
  unfold rngAdvance; split <;> rfl
@[simp] theorem rngAdvance_Y (s : State) : (rngAdvance s).Y = s.Y := by
  unfold rngAdvance; split <;> rfl
@[simp] theorem rngAdvance_CV0 (s : State) : (rngAdvance s).CV0 = s.CV0 := by
  unfold rngAdvance; split <;> rfl
@[simp] theorem rngAdvance_CV1 (s : State) : (rngAdvance s).CV1 = s.CV1 := by
  unfold rngAdvance; split <;> rfl
@[simp] theorem rngAdvance_KA (s : State) : (rngAdvance s).KA = s.KA := by
  unfold rngAdvance; split <;> rfl
@[simp] theorem rngAdvance_KB (s : State) : (rngAdvance s).KB = s.KB := by
  unfold rngAdvance; split <;> rfl
@[simp] theorem rngAdvance_WSEL (s : State) : (rngAdvance s).WSEL = s.WSEL := by
  unfold rngAdvance; split <;> rfl
@[simp] theorem rngAdvance_R (s : State) : (rngAdvance s).R = s.R := by
  unfold rngAdvance; split <;> rfl
@[simp] theorem rngAdvance_KLEN (s : State) : (rngAdvance s).KLEN = s.KLEN := by
  unfold rngAdvance; split <;> rfl
@[simp] theorem rngAdvance_S (s : State) : (rngAdvance s).S = s.S := by
  unfold rngAdvance; split <;> rfl
@[simp] theorem rngAdvance_KEY (s : State) : (rngAdvance s).KEY = s.KEY := by
  unfold rngAdvance; split <;> rfl
@[simp] theorem rngAdvance_L (s : State) : (rngAdvance s).L = s.L := by
  unfold rngAdvance; split <;> rfl
@[simp] theorem rngAdvance_HBUF (s : State) : (rngAdvance s).HBUF = s.HBUF := by
  unfold rngAdvance; split <;> rfl
@[simp] theorem rngAdvance_PHASE (s : State) : (rngAdvance s).PHASE = s.PHASE := by
  unfold rngAdvance; split <;> rfl
@[simp] theorem rngAdvance_OPR (s : State) : (rngAdvance s).OPR = s.OPR := by
  unfold rngAdvance; split <;> rfl
@[simp] theorem rngAdvance_RC (s : State) : (rngAdvance s).RC = s.RC := by
  unfold rngAdvance; split <;> rfl
@[simp] theorem rngAdvance_BI (s : State) : (rngAdvance s).BI = s.BI := by
  unfold rngAdvance; split <;> rfl
@[simp] theorem rngAdvance_KI (s : State) : (rngAdvance s).KI = s.KI := by
  unfold rngAdvance; split <;> rfl
@[simp] theorem rngAdvance_KJ (s : State) : (rngAdvance s).KJ = s.KJ := by
  unfold rngAdvance; split <;> rfl
@[simp] theorem rngAdvance_KN (s : State) : (rngAdvance s).KN = s.KN := by
  unfold rngAdvance; split <;> rfl
@[simp] theorem rngAdvance_HC (s : State) : (rngAdvance s).HC = s.HC := by
  unfold rngAdvance; split <;> rfl
@[simp] theorem rngAdvance_STATUS (s : State) : (rngAdvance s).STATUS = s.STATUS := by
  unfold rngAdvance; split <;> rfl
@[simp] theorem rngAdvance_PWD_LEN (s : State) : (rngAdvance s).PWD_LEN = s.PWD_LEN := by
  unfold rngAdvance; split <;> rfl
@[simp] theorem rngAdvance_IN_LEN (s : State) : (rngAdvance s).IN_LEN = s.IN_LEN := by
  unfold rngAdvance; split <;> rfl
@[simp] theorem rngAdvance_OUT_LEN (s : State) : (rngAdvance s).OUT_LEN = s.OUT_LEN := by
  unfold rngAdvance; split <;> rfl
@[simp] theorem rngAdvance_PWD (s : State) : (rngAdvance s).PWD = s.PWD := by
  unfold rngAdvance; split <;> rfl
@[simp] theorem rngAdvance_IN (s : State) : (rngAdvance s).IN = s.IN := by
  unfold rngAdvance; split <;> rfl
@[simp] theorem rngAdvance_OUT (s : State) : (rngAdvance s).OUT = s.OUT := by
  unfold rngAdvance; split <;> rfl
@[simp] theorem rngAdvance_platform (s : State) : (rngAdvance s).platform = s.platform := by
  unfold rngAdvance; split <;> rfl
@[simp] theorem rngAdvance_turns (s : State) : (rngAdvance s).turns = s.turns := by
  unfold rngAdvance; split <;> rfl
@[simp] theorem rngAdvance_readData (s : State) : (rngAdvance s).readData = s.readData := by
  unfold rngAdvance; split <;> rfl
@[simp] theorem rngAdvance_epoch (s : State) : (rngAdvance s).epoch = s.epoch := by
  unfold rngAdvance; split <;> rfl

end Sys2Proof.Machine
end

