-- ==== Sys2Proof/Laws/Memory.lean ====
section
/-! SUPPORT. What the buffer operations do: read after write, canonical form, capacity. -/

namespace Sys2Proof.Machine

/-- A stored byte reads back. -/
@[simp] theorem Memory.get?_put_same (m : Memory) (o : Nat) (x : Byte) : (m.put o x).get? o = some x := by
  induction m with
  | nil => simp [Memory.put, Memory.get?]
  | cons c m ih =>
    obtain ⟨a, y⟩ := c
    simp only [Memory.put]
    split
    · simp [Memory.get?]
    · split
      · simp [Memory.get?]
      · rename_i h1 h2
        have : a ≠ o := fun h => h2 h.symm
        simp [Memory.get?, this, ih]

/-- A store leaves every other offset alone. -/
theorem Memory.get?_put_other (m : Memory) {o p : Nat} (x : Byte) (h : p ≠ o) :
    (m.put o x).get? p = m.get? p := by
  have h' : o ≠ p := fun e => h e.symm
  induction m with
  | nil => simp [Memory.put, Memory.get?, h']
  | cons c m ih =>
    obtain ⟨a, y⟩ := c
    simp only [Memory.put]
    split
    · simp [Memory.get?, h']
    · split
      · rename_i h1 h2
        subst h2
        simp [Memory.get?, h']
      · simp [Memory.get?, ih]

/-- The offsets listed after a store are the old ones and the stored one. -/
theorem Memory.mem_put {m : Memory} {o : Nat} {x : Byte} {c : Host.Cell} (h : c ∈ m.put o x) :
    c.1 = o ∨ c ∈ m := by
  induction m with
  | nil => simp only [Memory.put, List.mem_singleton] at h; simp [h]
  | cons d m ih =>
    obtain ⟨a, y⟩ := d
    simp only [Memory.put] at h
    split at h
    · rcases List.mem_cons.mp h with rfl | h
      · exact .inl rfl
      · exact .inr h
    · split at h
      · rcases List.mem_cons.mp h with rfl | h
        · exact .inl rfl
        · exact .inr (List.mem_cons_of_mem _ h)
      · rcases List.mem_cons.mp h with rfl | h
        · exact .inr List.mem_cons_self
        · exact (ih h).imp id (List.mem_cons_of_mem _)

/-- A store keeps the canonical form. -/
theorem Memory.wf_put {m : Memory} (h : m.wf) (o : Nat) (x : Byte) : (m.put o x).wf := by
  induction m with
  | nil => exact List.pairwise_singleton _ _
  | cons c m ih =>
    obtain ⟨a, y⟩ := c
    obtain ⟨hd, tl⟩ := List.pairwise_cons.mp h
    simp only [Memory.put]
    split
    · rename_i hlt
      refine List.pairwise_cons.mpr ⟨fun d hd' => ?_, h⟩
      rcases List.mem_cons.mp hd' with rfl | hm
      · exact hlt
      · exact Nat.lt_trans hlt (hd d hm)
    · split
      · rename_i h1 h2
        subst h2
        exact List.pairwise_cons.mpr ⟨hd, tl⟩
      · rename_i h1 h2
        refine List.pairwise_cons.mpr ⟨fun d hd' => ?_, ih tl⟩
        rcases Memory.mem_put hd' with he | hm
        · show a < d.1
          omega
        · exact hd d hm

/-- Storing a run of bytes keeps the canonical form. -/
theorem Memory.wf_putBytes {m : Memory} (h : m.wf) (o : Nat) (xs : List Byte) : (m.putBytes o xs).wf := by
  induction xs generalizing m o with
  | nil => exact h
  | cons x xs ih => exact ih (Memory.wf_put h o x) (o + 1)

/-- The offsets listed after storing a run lie in the run or were listed before. -/
theorem Memory.mem_putBytes {m : Memory} {o : Nat} {xs : List Byte} {c : Host.Cell} (h : c ∈ m.putBytes o xs) :
    (o ≤ c.1 ∧ c.1 < o + xs.length) ∨ c ∈ m := by
  induction xs generalizing m o with
  | nil => exact .inr h
  | cons x xs ih =>
    rcases ih h with h' | h'
    · left; simp only [List.length_cons]; omega
    · rcases Memory.mem_put h' with he | hm
      · left; simp only [List.length_cons]; omega
      · exact .inr hm

/-- What reads after storing a run of bytes: the byte of the run inside it, the old contents outside. -/
theorem Memory.get?_putBytes (m : Memory) (o : Nat) (xs : List Byte) (p : Nat) :
    (m.putBytes o xs).get? p =
      if o ≤ p ∧ p < o + xs.length then some (xs.getD (p - o) 0) else m.get? p := by
  induction xs generalizing m o with
  | nil =>
    have h : ¬(o ≤ p ∧ p < o + ([] : List Byte).length) := by simp
    rw [if_neg h]; rfl
  | cons x xs ih =>
    simp only [Memory.putBytes, ih, List.length_cons]
    by_cases h : p = o
    · subst h
      simp
    · rw [Memory.get?_put_other _ _ h]
      by_cases hin : o + 1 ≤ p ∧ p < o + 1 + xs.length
      · have hin' : o ≤ p ∧ p < o + (xs.length + 1) := by omega
        rw [if_pos hin, if_pos hin']
        obtain ⟨d, hd⟩ : ∃ d, p - o = d + 1 := ⟨p - o - 1, by omega⟩
        have : p - (o + 1) = d := by omega
        rw [hd, this]
        simp
      · have hin' : ¬(o ≤ p ∧ p < o + (xs.length + 1)) := by omega
        rw [if_neg hin, if_neg hin']

/-- What a byte reads as after a command or the host has written a run of bytes. -/
theorem byteAt_memWrite (b : Buf) (o : Nat) (xs : List Byte) (s : State) (c : Buf) (p : Nat) :
    byteAt (memWrite b o xs s) c p =
      if c = b ∧ o ≤ p ∧ p < o + xs.length then xs.getD (p - o) 0 else byteAt s c p := by
  by_cases hcb : c = b
  · subst hcb
    have hb : (memWrite c o xs s).buffer c = (s.buffer c).putBytes o xs := by cases c <;> rfl
    simp only [byteAt, hb, Memory.get?_putBytes, memWrite_epoch, true_and]
    by_cases h : o ≤ p ∧ p < o + xs.length
    · rw [if_pos h, if_pos h]
    · rw [if_neg h, if_neg h]
  · have hb : (memWrite b o xs s).buffer c = s.buffer c := by
      cases b <;> cases c <;> first | rfl | exact absurd rfl hcb
    simp [byteAt, hb, hcb]

/-- A write keeps every buffer in canonical form. -/
theorem memWrite_canonical {s : State} (h : ∀ c, (s.buffer c).wf) (b : Buf) (o : Nat) (xs : List Byte) (c : Buf) :
    ((memWrite b o xs s).buffer c).wf := by
  cases b <;> cases c <;> first
    | exact Memory.wf_putBytes (h .password) o xs | exact Memory.wf_putBytes (h .input) o xs
    | exact Memory.wf_putBytes (h .output) o xs | exact h .password | exact h .input | exact h .output

/-- The length of a read. -/
@[simp] theorem length_memRead (s : State) (b : Buf) (o n : Nat) : (memRead s b o n).length = n := by
  simp [memRead]

/-- The buffers after reset are in canonical form. -/
theorem reset_canonical (c : Buf) : (State.reset.buffer c).wf := by
  cases c <;> exact List.Pairwise.nil

/-- A byte of a read. -/
theorem getD_memRead (s : State) (b : Buf) (o n i : Nat) (h : i < n) :
    (memRead s b o n).getD i 0 = byteAt s b (o + i) := by
  simp [memRead, List.getD, h]

/-- A word emits `wb` bytes. -/
@[simp] theorem length_wordToBytes (w : Width) (v : Word) : (wordToBytes w v).length = wordBytes w := by
  simp [wordToBytes]

/-- A pair emits a block. -/
@[simp] theorem length_bytesOfPair (w : Width) (v0 v1 : Word) : (bytesOfPair w v0 v1).length = blockSize w := by
  simp only [bytesOfPair, List.length_append, length_wordToBytes, blockSize]
  omega

/-- What a byte reads as after a pair has been stored to OUT. -/
theorem byteAt_storePair (o : Nat) (v0 v1 : Word) (s : State) (c : Buf) (p : Nat) :
    byteAt (storePair o v0 v1 s) c p =
      if c = .output ∧ o ≤ p ∧ p < o + blockSize s.WSEL then (bytesOfPair s.WSEL v0 v1).getD (p - o) 0
      else byteAt s c p := by
  rw [storePair, byteAt_memWrite, length_bytesOfPair]

/-- A hash answer has HLEN bytes. -/
@[simp] theorem length_hash (p : Platform) (m : List Byte) : (hash p m).length = p.HLEN := by
  unfold hash
  split
  · simp
  · simp

end Sys2Proof.Machine
end

