-- ==== Sys2Proof/Laws/PerInstr.lean ====
section
/-! SUPPORT. A statement per command as syntax: bits 3:0 of its word are its opcode (spec 30_encoding R90, R95). -/

namespace Sys2Proof.Laws.EncodeCarriesOpcode

/-- Bits 3:0 of the encoded word of a command are its opcode. -/
def Statement (i : Instr) : Prop := bitField (encode i) 3 0 = opcode i

theorem low_bits_of_sum (n k : Nat) (hk : k < 16) : bitField (BitVec.ofNat 32 (n * 16 + k)) 3 0 = k := by
  simp only [bitField, BitVec.toNat_ofNat]
  omega

theorem init (wsel rounds klen : Nat) : Statement (.init wsel rounds klen) := by
  have h := low_bits_of_sum (wsel + rounds * 16 + klen * 4096) 1 (by omega)
  have e : operandBits (.init wsel rounds klen) + opcode (.init wsel rounds klen) =
      (wsel + rounds * 16 + klen * 4096) * 16 + 1 := by
    simp only [operandBits, opcode]; omega
  rw [Statement, encode, e, h]
  rfl

theorem ldp (off : Nat) : Statement (.ldp off) := by
  have h := low_bits_of_sum (off * 16) 10 (by omega)
  have e : operandBits (.ldp off) + opcode (.ldp off) = off * 16 * 16 + 10 := by
    simp only [operandBits, opcode]; omega
  rw [Statement, encode, e, h]
  rfl

theorem stp (off : Nat) : Statement (.stp off) := by
  have h := low_bits_of_sum (off * 16) 11 (by omega)
  have e : operandBits (.stp off) + opcode (.stp off) = off * 16 * 16 + 11 := by
    simp only [operandBits, opcode]; omega
  rw [Statement, encode, e, h]
  rfl

theorem enc : Statement .enc := rfl
theorem dec : Statement .dec := rfl
theorem encp : Statement .encp := rfl
theorem decp : Statement .decp := rfl
theorem pad : Statement .pad := rfl
theorem unpad : Statement .unpad := rfl
theorem rotl : Statement .rotl := rfl
theorem rotr : Statement .rotr := rfl
theorem clr : Statement .clr := rfl

end Sys2Proof.Laws.EncodeCarriesOpcode
end

