-- ==== Sys2Proof/Laws/Step.lean ====
section
/-! SUPPORT. What a command in one piece, and a step, can do. -/

namespace Sys2Proof.Machine

/-- A command in one piece answers the error end or the successful end, and nothing else. -/
theorem finish_next {failed : Option ErrCode} {body : State → State} {s t : State}
    (h : finish failed body s = .next t) :
    (∃ e, failed = some e ∧ t = errorEnd e s) ∨ (failed = none ∧ t = okEnd (body s)) := by
  cases failed with
  | some e => left; simpa [finish, eq_comm] using h
  | none => right; simpa [finish, eq_comm] using h

/-- A command in one piece always answers a next state. -/
theorem finish_total (failed : Option ErrCode) (body : State → State) (s : State) :
    ∃ t, finish failed body s = .next t := by
  cases failed <;> exact ⟨_, rfl⟩

@[simp] theorem finish_none (body : State → State) (s : State) : finish none body s = .next (okEnd (body s)) := rfl

@[simp] theorem finish_some (e : ErrCode) (body : State → State) (s : State) :
    finish (some e) body s = .next (errorEnd e s) := rfl

/-- The pseudocode of a decoded command, by constructor. -/
def bodyOf : Instr → State → State
  | .init wsel rounds klen => initBody wsel rounds klen
  | .enc => encBody
  | .dec => decBody
  | .encp => encpBody
  | .decp => decpBody
  | .pad => padBody
  | .unpad => unpadBody
  | .rotl => rotlBody
  | .rotr => rotrBody
  | .ldp off => ldpBody off
  | .stp off => stpBody off
  | .clr => clrBody

/-- Every meaning is its check, its pseudocode and the two ends. -/
theorem exec_eq_finish (i : Instr) (s : State) : exec i s = finish (check i s) (bodyOf i) s := by
  cases i <;> rfl

/-- A step with a turn takes that turn. -/
theorem step_cons {s : State} {t : Turn} {rest : List Turn} (h : s.turns = t :: rest) :
    step s = takeTurn t { s with turns := rest } := by
  simp [step, h]

/-- A step with no turn is a step of the sequencer. -/
theorem step_nil {s : State} (h : s.turns = []) : step s = seqStep s := by simp [step, h]

/-- What a step that answers a next state has done: a host access, a sequencer step, a whole command, or a reset. -/
theorem step_next_cases {s t : State} (h : step s = .next t) :
    (s.turns = [] ∧ seqStep s = .next t) ∨
    (∃ a rest, s.turns = .host a :: rest ∧ t = hostAccess a { s with turns := rest }) ∨
    (∃ rest, s.turns = .sequencer :: rest ∧ seqStep { s with turns := rest } = .next t) ∨
    (∃ v rest, s.turns = .command v :: rest ∧ runCommand v { s with turns := rest } = .next t) ∨
    (∃ rest, s.turns = .reset :: rest ∧ t = resetInput { s with turns := rest }) := by
  cases ht : s.turns with
  | nil => exact .inl ⟨rfl, by rwa [step_nil ht] at h⟩
  | cons u rest =>
    rw [step_cons ht] at h
    cases u with
    | host a => exact .inr (.inl ⟨a, rest, rfl, by simpa [takeTurn, eq_comm] using h⟩)
    | sequencer => exact .inr (.inr (.inl ⟨rest, rfl, h⟩))
    | command v => exact .inr (.inr (.inr (.inl ⟨v, rest, rfl, h⟩)))
    | reset => exact .inr (.inr (.inr (.inr ⟨rest, rfl, by simpa [takeTurn, eq_comm] using h⟩)))

/-- What a whole command that answers a next state has done: a refusal, the end of an illegal word, the error end of a
check, or the command's pseudocode and the successful end. -/
theorem runCommand_next_cases {v : BitVec 32} {s t : State} (h : runCommand v s = .next t) :
    (s.STATUS.BUSY = true ∧ t = refuseAccess s) ∨
    (s.STATUS.BUSY = false ∧ (∃ e, decode v = .error e) ∧ t = errorEnd .E_ILLCMD (accept v s)) ∨
    (s.STATUS.BUSY = false ∧ ∃ i, decode v = .ok i ∧
      ((∃ e, check i (accept v s) = some e ∧ t = errorEnd e (accept v s)) ∨
       (check i (accept v s) = none ∧ t = okEnd (bodyOf i (accept v s))))) := by
  unfold runCommand at h
  split at h
  · exact .inl ⟨‹_›, by simpa [eq_comm] using h⟩
  · rename_i hnb
    have hb : s.STATUS.BUSY = false := Bool.eq_false_iff.mpr hnb
    split at h
    · rename_i e he
      exact .inr (.inl ⟨hb, ⟨e, he⟩, by simpa [eq_comm] using h⟩)
    · rename_i i hi
      rw [exec_eq_finish] at h
      exact .inr (.inr ⟨hb, i, hi, finish_next h⟩)

/-- The invariant does not speak of the events to come. -/
theorem inv_turns {s : State} (h : Inv s) (turns : List Turn) : Inv { s with turns := turns } where
  platform := h.platform
  canonical b := by cases b; exacts [h.canonical .password, h.canonical .input, h.canonical .output]
  bounded b := by cases b; exacts [h.bounded .password, h.bounded .input, h.bounded .output]
  busy := h.busy
  running := h.running
  noError := h.noError
  error := h.error
  padnv := h.padnv
  outLen := h.outLen
  hidden := h.hidden
  subkeys := h.subkeys
  keyBytes := h.keyBytes
  unkeyed := h.unkeyed
  keyed := h.keyed
  hbuf := h.hbuf
  command h1 h2 := by
    obtain ⟨i, hd, hr, hc⟩ := h.command h1 h2
    exact ⟨i, hd, hr, by cases i <;> exact hc⟩
  encIndex := h.encIndex
  decIndex := h.decIndex
  mixIndex := h.mixIndex

end Sys2Proof.Machine
end

