-- ==== Sys2Proof/Tests/Slice0.lean ====
section
/-! SUPPORT. Tests of the model: ill-formed terms, words written out from the spec's encodings, single steps with the
results of spec 95_test_vectors, and for each statement with hypotheses a concrete state that meets them together. -/

namespace Sys2Proof.Tests

-- Many small kernel evaluations, one after another, each in its turn.
set_option Elab.async false

open Sys2Proof Sys2Proof.Machine

/-! ### Well-formedness: one ill-formed term for each check -/

theorem test_wellFormed_refuses_wsel : WellFormed (.init 4 0 1) = false := by decide
theorem test_wellFormed_refuses_rounds : WellFormed (.init 0 256 1) = false := by decide
theorem test_wellFormed_refuses_klen : WellFormed (.init 0 0 256) = false := by decide
theorem test_wellFormed_refuses_ldp_offset : WellFormed (.ldp 16777216) = false := by decide
theorem test_wellFormed_refuses_stp_offset : WellFormed (.stp 16777216) = false := by decide
theorem test_wellFormed_admits_corners :
    WellFormed (.init 3 255 255) = true ∧ WellFormed (.init 0 0 0) = true ∧ WellFormed (.ldp 16777215) = true ∧
    WellFormed (.stp 16777215) = true := by decide

/-! ### Decoding: the words of 30_encoding section 5, and of R91 to R95, bit by bit -/

/-- Bits 31:24 zero, KLEN = 16, ROUNDS = 12, bits 7:6 zero, WSEL = 1, OPC = 1. -/
theorem test_decode_init : decode 0b00000000_00010000_00001100_00_01_0001 = .ok (.init 1 12 16) := by decide
/-- KLEN = 9, ROUNDS = 1, WSEL = 2. -/
theorem test_decode_init_w64 : decode 0b00000000_00001001_00000001_00_10_0001 = .ok (.init 2 1 9) := by decide
theorem test_decode_enc : decode 0b0000000000000000000000000000_0010 = .ok .enc := by decide
theorem test_decode_dec : decode 0b0000000000000000000000000000_0011 = .ok .dec := by decide
theorem test_decode_encp : decode 0b0000000000000000000000000000_0100 = .ok .encp := by decide
theorem test_decode_decp : decode 0b0000000000000000000000000000_0101 = .ok .decp := by decide
theorem test_decode_pad : decode 0b0000000000000000000000000000_0110 = .ok .pad := by decide
theorem test_decode_unpad : decode 0b0000000000000000000000000000_0111 = .ok .unpad := by decide
theorem test_decode_rotl : decode 0b0000000000000000000000000000_1000 = .ok .rotl := by decide
theorem test_decode_rotr : decode 0b0000000000000000000000000000_1001 = .ok .rotr := by decide
/-- OFF = 4, bits 7:4 zero, OPC = 0xA. -/
theorem test_decode_ldp : decode 0b000000000000000000000100_0000_1010 = .ok (.ldp 4) := by decide
/-- The greatest offset the field holds. -/
theorem test_decode_stp : decode 0b111111111111111111111111_0000_1011 = .ok (.stp 16777215) := by decide
theorem test_decode_clr : decode 0b0000000000000000000000000000_1100 = .ok .clr := by decide
/-- R96: the reserved opcodes, and each must-be-zero field with one bit set. -/
theorem test_decode_refuses :
    decode 0x00000000 = .error .reservedOpcode ∧ decode 0x0000000D = .error .reservedOpcode ∧
    decode 0x0000000E = .error .reservedOpcode ∧ decode 0xFFFFFFFF = .error .reservedOpcode ∧
    decode 0x01000001 = .error .nonzeroField ∧ decode 0x00000041 = .error .nonzeroField ∧
    decode 0x0000001A = .error .nonzeroField ∧ decode 0x0000008B = .error .nonzeroField ∧
    decode 0x00000012 = .error .nonzeroField ∧ decode 0x8000000C = .error .nonzeroField := by decide
/-- The word of the command line `stp 8` in program P3. -/
theorem test_encode_stp : encode (.stp 8) = 0x0000080B := by decide

/-! ### Small states -/

/-- Whether an outcome is a next state with a property. -/
def yields (o : Host.Outcome State Fault Refusal) (p : State → Bool) : Bool :=
  match o with
  | .next t => p t
  | .fault _ => false
  | .refused _ => false

/-- What `yields` says. -/
theorem exists_of_yields {o : Host.Outcome State Fault Refusal} {p : State → Bool} (h : yields o p = true) :
    ∃ t, o = .next t ∧ p t = true := by
  cases o with
  | next t => exact ⟨t, rfl, h⟩
  | fault r => simp [yields] at h
  | refused r => simp [yields] at h

/-- The bytes of "test". -/
def testBytes : List Byte := [0x74, 0x65, 0x73, 0x74]

/-- The spec's defaults with the test hash THASH of 95_test_vectors section 2, as far as the tests ask it. -/
def demoPlatform : Platform :=
  { Platform.default with
    HLEN := 8
    hashKnown :=
      [(testBytes, [0x78, 0x49, 0x1A, 0xEB, 0xBC, 0x8D, 0x5E, 0x2F]),
       ([0x78, 0x49, 0x1A, 0xEB, 0xBC, 0x8D, 0x5E, 0x2F], [0x19, 0xC6, 0x73, 0x20, 0xCD, 0x7A, 0x27, 0xD4]),
       ([0x19, 0xC6, 0x73, 0x20, 0xCD, 0x7A, 0x27, 0xD4], [0x1D, 0xE2, 0xA7, 0x6C, 0x31, 0xF6, 0xBB, 0x80])] }

/-- The state after reset on that platform. -/
def blank : State := { State.reset with platform := demoPlatform, HBUF := List.replicate 8 0 }

/-- The engine of V-KS1: `w = 16`, `r = 2`, `KEY = 01 02 03`. -/
def keyed : State :=
  { blank with
    R := 2
    KLEN := 3
    KEY := tableFill blank.KEY 0 [0x01, 0x02, 0x03]
    L := tableFill blank.L 0 [0x619D, 0x1B07]
    S := tableFill blank.S 0 [0xFA28, 0xD215, 0xD4F2, 0xE6E0, 0x4D68, 0x303B]
    STATUS := { Status.reset with KEYED := true, DONE := true } }

/-- The same engine at another width, its subkeys as they are; for commands that read no subkey. -/
def keyedAt (w : Width) : State := { keyed with WSEL := w }

/-- A message in IN. -/
def withIn (bytes : List Byte) (s : State) : State :=
  { memWrite .input 0 bytes s with IN_LEN := BitVec.ofNat 32 bytes.length }

/-- The password "test" in PWD. -/
def withPwd (s : State) : State := { memWrite .password 0 testBytes s with PWD_LEN := 4 }

/-- One step that runs a command. -/
def ran (i : Instr) (s : State) : Host.Outcome State Fault Refusal :=
  step (s.withFetchWord 32 (encode i).toNat)

/-- The state in which a command has just been accepted. -/
def accepted (i : Instr) (s : State) : State := accept (encode i) s

/-! ### Single steps, with the results of 95_test_vectors -/

/-- V-KS7. -/
theorem test_init_builds_subkeys :
    yields (ran (.init 0 2 3) (withPwd blank)) (fun t =>
      (List.range 7).map (subkey t) == [0xFAA6, 0x5F53, 0x8A3D, 0xAB8A, 0xB2CA, 0x6E99, 0] &&
      (List.range 4).map (fun i => tableGet t.KEY i 0) == [0x8D, 0x5E, 0x2F, 0] &&
      statusWord t.STATUS == 0x00000006 && cfgWord t == 0x00030200) = true := by decide +kernel

/-- P5: WSEL = 3 is E_CONFIG, and nothing is latched. -/
theorem test_init_refuses_width :
    yields (ran (.init 3 2 3) (withPwd blank)) (fun t =>
      statusWord t.STATUS == 0x0000030C && cfgWord t == 0) = true := by decide +kernel

/-- V-CBC1: the empty message. -/
theorem test_enc_empty :
    yields (ran .enc { withIn [] keyed with rngAnswers := [0xAAAA, 0x5555] }) (fun t =>
      memRead t .output 0 8 == [0x69, 0x78, 0x59, 0x76, 0x2E, 0x01, 0x03, 0x34] && t.OUT_LEN == 8) = true := by
  decide +kernel

/-- V-CBC4: an aligned message gets a whole block of padding; the draws 0, 0. -/
theorem test_enc_aligned :
    yields (ran .enc { withIn [0x41, 0x42, 0x43, 0x44] keyed with rngAnswers := [0, 0] }) (fun t =>
      memRead t .output 0 12 == [0xE5, 0x05, 0x7F, 0x70, 0xEA, 0x6C, 0x67, 0x69, 0x3C, 0xC6, 0x78, 0x44] &&
      t.OUT_LEN == 12) = true := by decide +kernel

/-- V-CBC5, decrypted. -/
theorem test_dec_unchains :
    yields (ran .dec (withIn [0x21, 0xFA, 0xA1, 0x10, 0x86, 0x8A, 0x52, 0x1C, 0x2D, 0xDF, 0xFB, 0x2A] keyed))
      (fun t => memRead t .output 0 8 == [0x41, 0x42, 0x43, 0x44, 0x45, 0x03, 0x03, 0x03] && t.OUT_LEN == 5 &&
        statusWord t.STATUS == 0x00000006) = true := by decide +kernel

/-- P5: a length of `2*wb - 1` is E_CTLEN. -/
theorem test_dec_refuses_length :
    yields (ran .dec (withIn [1, 2, 3] keyed)) (fun t => statusWord t.STATUS == 0x0000050E) = true := by
  decide +kernel

/-- V-BC3. -/
theorem test_encp :
    yields (ran .encp { keyed with A := 0x1234, B := 0xABCD }) (fun t =>
      t.A == 0xFB63 && t.B == 0x9BD9 && statusWord t.STATUS == 0x00000006) = true := by decide +kernel

/-- V-BC4: both additions wrap. -/
theorem test_encp_wraps :
    yields (ran .encp { keyed with A := 0xFFFF, B := 0xFFFF }) (fun t => t.A == 0x1A39 && t.B == 0xD362) = true := by
  decide +kernel

/-- V-BC3. -/
theorem test_decp :
    yields (ran .decp { keyed with A := 0xFB63, B := 0x9BD9 }) (fun t => t.A == 0x1234 && t.B == 0xABCD) = true := by
  decide +kernel

/-- V-PAD4, w = 32. -/
theorem test_pad :
    yields (ran .pad (withIn [0x41, 0x42, 0x43, 0x44, 0x45, 0x46, 0x47, 0x48, 0x49] (keyedAt .w32))) (fun t =>
      memRead t .output 0 16 ==
        [0x41, 0x42, 0x43, 0x44, 0x45, 0x46, 0x47, 0x48, 0x49, 7, 7, 7, 7, 7, 7, 7] &&
      t.OUT_LEN == 16 && statusWord t.STATUS == 0x00000006) = true := by decide +kernel

/-- V-PAD4, second part. -/
theorem test_unpad :
    yields (ran .unpad (withIn [0x41, 0x42, 0x43, 0x44, 0x45, 3, 3, 3] keyed)) (fun t =>
      memRead t .output 0 8 == [0x41, 0x42, 0x43, 0x44, 0x45, 3, 3, 3] && t.OUT_LEN == 5 &&
      statusWord t.STATUS == 0x00000006) = true := by decide +kernel

/-- V-PAD4, third part: the filler is not valid. -/
theorem test_unpad_not_valid :
    yields (ran .unpad (withIn [0x41, 0x42, 0x43, 0] keyed)) (fun t =>
      memRead t .output 0 4 == [0x41, 0x42, 0x43, 0] && t.OUT_LEN == 4 &&
      statusWord t.STATUS == 0x00000016) = true := by decide +kernel

/-- V-WC3: the upper bits of A and B do not count. -/
theorem test_rotl :
    yields (ran .rotl { keyed with A := 0xFFFFFFFFFFFF8001, B := 0xABCD0011 }) (fun t =>
      t.A == 0x0003 && t.B == 0xABCD0011) = true := by decide +kernel

/-- V-WC2, w = 64, an amount of 63. -/
theorem test_rotr :
    yields (ran .rotr { keyedAt .w64 with A := 0x0123456789ABCDEF, B := 0xFFFFFFFFFFFFFFFF }) (fun t =>
      t.A == 0x02468ACF13579BDE) = true := by decide +kernel

/-- V-WC4: the last offset that fits. -/
theorem test_ldp :
    yields (ran (.ldp 1) (withIn [0x41, 0x42, 0x43, 0x44, 0x45] keyed)) (fun t =>
      t.A == 0x4342 && t.B == 0x4544) = true := by decide +kernel

/-- V-WC4: one offset further is E_RANGE. -/
theorem test_ldp_refuses :
    yields (ran (.ldp 2) (withIn [0x41, 0x42, 0x43, 0x44, 0x45] keyed)) (fun t =>
      statusWord t.STATUS == 0x0000040E && t.A == 0 && t.B == 0) = true := by decide +kernel

/-- V-WC5. -/
theorem test_stp :
    yields (ran (.stp 4) { keyed with A := 0x8A86, B := 0x1C52 }) (fun t =>
      memRead t .output 4 4 == [0x86, 0x8A, 0x52, 0x1C] && t.OUT_LEN == 0) = true := by decide +kernel

/-- V-WC5: `stp 4124` is legal, `stp 4125` is E_RANGE. -/
theorem test_stp_last_offset :
    yields (ran (.stp 4124) keyed) (fun t => statusWord t.STATUS == 0x00000006) = true ∧
    yields (ran (.stp 4125) keyed) (fun t => statusWord t.STATUS == 0x0000040E) = true := by decide +kernel

/-- P1: after CLR only DONE is set, and ENCP is refused. -/
theorem test_clr :
    yields (ran .clr (withIn [1] { keyed with A := 5, OUT_LEN := 9 })) (fun t =>
      statusWord t.STATUS == 0x00000004 && cfgWord t == 0 && t.A == 0 && t.OUT_LEN == 0 && t.IN_LEN == 1 &&
      byteAt t .input 0 == 1) = true := by decide +kernel

/-- P1: a command of an engine that is not keyed ends with E_STATE. -/
theorem test_encp_unkeyed : yields (ran .encp blank) (fun t => statusWord t.STATUS == 0x0000020C) = true := by
  decide +kernel

/-- V-KS1, row 0 of the mixing loop, in one step of the sequencer. -/
theorem test_mix_row :
    yields (seqStep (startMix (seedTable (splitKey { keyed with PHASE := .K_MIX })))) (fun t =>
      t.KA == 0xBF0D && t.KB == 0xD821 && subkey t 0 == 0xBF0D && subkey t 1 == 0x5618 &&
      tableGet t.L 0 0 == 0xD821 && tableGet t.L 1 0 == 0x0003 && t.KI == 1 && t.KN == 17) = true := by
  decide +kernel

/-- P5: a read of CMD is refused, and a write of 0x20 to STATUS clears HERR. -/
theorem test_port_herr :
    (hostAccess (.readReg 0) keyed).readData = 0 ∧
    statusWord (hostAccess (.readReg 0) keyed).STATUS = 0x00000026 ∧
    statusWord (hostAccess (.writeReg 1 0x20) (hostAccess (.readReg 0) keyed)).STATUS = 0x00000006 := by
  decide +kernel

/-- V-PAD3: a run longer than a block of 4 is stripped; a run that does not match is left. -/
theorem test_unpad_table :
    unpad [0x41, 0x42, 0x43, 5, 5, 5, 5, 5] = ([0x41, 0x42, 0x43], false) ∧
    unpad [0x41, 0x42, 2, 3] = ([0x41, 0x42, 2, 3], true) := by decide

/-- V-KDF1, the row of 12 bytes. -/
theorem test_kdf :
    kdf demoPlatform testBytes 12 =
      [0xCD, 0x7A, 0x27, 0xD4, 0x78, 0x49, 0x1A, 0xEB, 0xBC, 0x8D, 0x5E, 0x2F] := by decide +kernel

/-- A store keeps the addresses rising, wherever it lands. -/
theorem test_put_keeps_order :
    Memory.put (Memory.put (Memory.put [] 5 1) 2 2) 5 3 = [(2, 2), (5, 3)] := by decide

/-! ### Witnesses: for each statement with hypotheses, states and operands that meet them, clause by clause -/

/-- The cleared tables read 0. -/
theorem subkey_blank (i : Nat) : subkey blank i = 0 := by
  by_cases h : i < 512 <;> simp [subkey, tableGet, blank, State.reset, h]

theorem key_blank (i : Nat) : tableGet blank.KEY i 0 = 0 := by
  by_cases h : i < 255 <;> simp [tableGet, blank, State.reset, h]

/-- The subkeys of V-KS1, and 0 above them. -/
theorem subkey_keyed (i : Nat) :
    subkey keyed i = if i < 6 then ([0xFA28, 0xD215, 0xD4F2, 0xE6E0, 0x4D68, 0x303B] : List Word).getD i 0 else 0 := by
  have h := tableGet_tableFill blank.S 0 [0xFA28, 0xD215, 0xD4F2, 0xE6E0, 0x4D68, 0x303B] i 0
  rw [show tableGet blank.S i 0 = 0 from subkey_blank i] at h
  refine Eq.trans h ?_
  by_cases hi : i < 6
  · simp [hi, show i < 512 by omega]
  · simp [hi]

theorem key_keyed (i : Nat) (h : 3 ≤ i) : tableGet keyed.KEY i 0 = 0 := by
  have h' := tableGet_tableFill blank.KEY 0 [0x01, 0x02, 0x03] i 0
  rw [key_blank i] at h'
  refine Eq.trans h' ?_
  rw [if_neg (by simp; omega)]

/-- An engine that is not keyed meets the invariant. -/
theorem blank_inv : Inv blank where
  platform := by decide +kernel
  canonical := by intro b; cases b <;> decide +kernel
  bounded := by intro b; cases b <;> decide +kernel
  busy := by decide +kernel
  running := by decide +kernel
  noError := by decide +kernel
  error := by decide +kernel
  padnv := by decide +kernel
  outLen := by decide +kernel
  hidden := by decide +kernel
  subkeys i _ := by rw [subkey_blank]; exact ⟨by decide, fun _ => rfl⟩
  keyBytes i _ _ := key_blank i
  unkeyed _ _ := ⟨rfl, rfl, rfl, fun i _ => subkey_blank i, fun i _ => key_blank i⟩
  keyed := by decide +kernel
  hbuf := by decide +kernel
  command := fun h => absurd rfl h
  encIndex := by decide +kernel
  decIndex := by decide +kernel
  mixIndex := by decide +kernel

/-- A keyed engine meets the invariant. -/
theorem keyed_inv : Inv keyed where
  platform := by decide +kernel
  canonical := by intro b; cases b <;> decide +kernel
  bounded := by intro b; cases b <;> decide +kernel
  busy := by decide +kernel
  running := by decide +kernel
  noError := by decide +kernel
  error := by decide +kernel
  padnv := by decide +kernel
  outLen := by decide +kernel
  hidden := by decide +kernel
  subkeys i _ := by
    have h6 : subkeyCount keyed = 6 := by decide +kernel
    rw [subkey_keyed, h6]
    by_cases hi : i < 6
    · rw [if_pos hi]
      have hf : ∀ k, k < 6 → Fits .w16
          (([0xFA28, 0xD215, 0xD4F2, 0xE6E0, 0x4D68, 0x303B] : List Word).getD k 0) := by decide
      exact ⟨hf i hi, fun h => absurd hi (by omega)⟩
    · rw [if_neg hi]
      exact ⟨by decide, fun _ => rfl⟩
  keyBytes i _ h := key_keyed i h
  unkeyed h := absurd h (by decide +kernel)
  keyed := by decide +kernel
  hbuf := by decide +kernel
  command := fun h => absurd rfl h
  encIndex := by decide +kernel
  decIndex := by decide +kernel
  mixIndex := by decide +kernel

/-- A running CLR. -/
def clearing : State := { accepted .clr keyed with PHASE := .EXEC }

/-- A running CLR meets the invariant. -/
theorem clearing_inv : Inv clearing where
  platform := by decide +kernel
  canonical := by intro b; cases b <;> decide +kernel
  bounded := by intro b; cases b <;> decide +kernel
  busy := by decide +kernel
  running := by decide +kernel
  noError := by decide +kernel
  error := by decide +kernel
  padnv := by decide +kernel
  outLen := by decide +kernel
  hidden := by decide +kernel
  subkeys := keyed_inv.subkeys
  keyBytes := keyed_inv.keyBytes
  unkeyed h := absurd h (by decide +kernel)
  keyed := by decide +kernel
  hbuf := by decide +kernel
  command := fun _ _ => ⟨.clr, by decide +kernel, rfl, rfl⟩
  encIndex := by decide +kernel
  decIndex := by decide +kernel
  mixIndex := by decide +kernel

theorem witness_DecodeInvertsEncode :
    WellFormed (.init 3 255 255) = true ∧ WellFormed (.init 0 0 0) = true ∧ WellFormed .enc = true ∧
    WellFormed (.ldp 16777215) = true ∧ WellFormed (.stp 0) = true := by decide

theorem witness_EncodeInvertsDecode :
    decode 0x00FFFF31 = .ok (.init 3 255 255) ∧ decode 0xFFFFFF0A = .ok (.ldp 16777215) ∧
    decode 0x0000000C = .ok .clr := by decide

theorem witness_DecodeMatchesMaskTable :
    (0x00FFFF31 : BitVec 32) &&& 0xFF0000CF = 0x00000001 ∧ (0xFFFFFF0A : BitVec 32) &&& 0x000000FF = 0x0000000A ∧
    (0x00000002 : BitVec 32) &&& 0xFFFFFFFF = 0x00000002 := by decide

theorem witness_OperandsAreUnsignedFields :
    decode 0x00FFFF31 = .ok (.init 3 255 255) ∧ decode 0x00000001 = .ok (.init 0 0 0) ∧
    decode 0xFFFFFF0A = .ok (.ldp 16777215) ∧ decode 0x0000000B = .ok (.stp 0) := by decide

theorem witness_IllegalWordEndsWithIllcmd :
    decode 0x0000000D = .error .reservedOpcode ∧ decode 0x00000041 = .error .nonzeroField ∧
    decode 0x0000001B = .error .nonzeroField ∧ decode 0x00000013 = .error .nonzeroField ∧
    blank.STATUS.BUSY = false := by decide +kernel

theorem witness_StepRunsDecodedCommand :
    { keyed with turns := [.command 0x00000008] }.turns = .command 0x00000008 :: [] ∧
    keyed.STATUS.BUSY = false ∧ decode 0x00000008 = .ok .rotl ∧
    decodeTableWord 32 0x00000008 = some .rotl ∧ decodeTableWord 8 0x0000000A = some (.ldp 0) := by decide +kernel

theorem witness_EachTurnMovesItsAgent :
    { keyed with turns := [.host (.readReg 1)] }.turns = .host (.readReg 1) :: [] ∧
    { keyed with turns := [.sequencer] }.turns = .sequencer :: [] ∧
    { keyed with turns := [.reset] }.turns = .reset :: [] ∧ keyed.turns = [] ∧ keyed.PHASE = .IDLE := by
  decide +kernel

theorem witness_SequencerRunEqualsWholeCommand :
    blank.platform.wf ∧ blank.STATUS.BUSY = false ∧ decode 0x00000000 = .error .reservedOpcode ∧
    decode 0x00030201 = .ok (.init 0 2 3) ∧
    20 < stepCount (.init 0 2 3) (accept 0x00030201 (withPwd blank)) ∧
    0 < stepCount .enc (accept 0x00000002 blank) := by decide +kernel

theorem witness_ErrorEndChangesStatusOnly :
    check .enc blank = some .E_STATE ∧ check (.init 3 2 3) blank = some .E_CONFIG ∧
    check (.ldp 0) keyed = some .E_RANGE ∧ check .dec keyed = some .E_CTLEN ∧
    (accepted .enc blank).PHASE = .DECODE ∧ decode (accepted .enc blank).OPR = .ok .enc ∧
    check .enc (accepted .enc blank) = some .E_STATE ∧
    clearing.PHASE ≠ .DECODE ∧ ∃ t, seqStep clearing = .next t ∧ t.STATUS.DONE = true := by
  refine ⟨by decide +kernel, by decide +kernel, by decide +kernel, by decide +kernel, by decide +kernel,
    by decide +kernel, by decide +kernel, by decide +kernel, ?_⟩
  exact exists_of_yields (p := fun t => t.STATUS.DONE) (by decide +kernel)

theorem witness_FirstFailingCheckIsReported :
    WellFormed (.init 3 255 0) = true ∧ check (.init 3 255 0) keyed = some .E_STATE ∧
    check (.init 3 255 0) blank = some .E_CONFIG ∧ check .rotl keyed = none ∧
    check .dec { keyed with IN_LEN := 4097 } = some .E_RANGE ∧
    check .dec { keyed with IN_LEN := 4095 } = some .E_CTLEN := by decide +kernel

theorem witness_RotlMovesEveryBit :
    15 < Width.w16.bits ∧ (0x10 : Word).toNat % Width.w16.bits = 0 ∧ (63 : Nat) < Width.w64.bits := by decide

theorem witness_RotrInvertsRotl : 15 < Width.w16.bits ∧ Fits .w16 0xFFFF ∧ Fits .w64 0xFFFFFFFFFFFFFFFF := by decide

theorem witness_WordArithmeticWraps :
    Fits .w16 0xFFFF ∧ Fits .w16 0 ∧ wordAdd .w16 1 0xFFFF = 0 ∧ Fits .w16 1 := by decide

theorem witness_BytesAndWordsConvert :
    ([0x78, 0x56, 0x34, 0x12] : List Byte).length = wordBytes .w32 ∧ 3 < wordBytes .w32 ∧
    Fits .w32 0xFFFFFFFF := by decide

/-- The words next to the format-Z words are illegal by their ZERO field. -/
theorem witness_RotlCommandRotatesA :
    keyed.STATUS.KEYED = true ∧ blank.STATUS.KEYED = false ∧
    (0x00000018 : BitVec 32).extractLsb 3 0 = 0x8 ∧ (0x00000018 : BitVec 32).extractLsb 31 4 ≠ 0 := by decide +kernel

theorem witness_RotrCommandRotatesA :
    keyed.STATUS.KEYED = true ∧ blank.STATUS.KEYED = false ∧
    (0x80000009 : BitVec 32).extractLsb 3 0 = 0x9 ∧ (0x80000009 : BitVec 32).extractLsb 31 4 ≠ 0 := by decide +kernel

/-- The last offset that fits, the first that does not, and a length one above the capacity. -/
theorem witness_LdpLoadsPair :
    (0xFFFFFF0A : BitVec 32).extractLsb 3 0 = 0xA ∧ (0xFFFFFF0A : BitVec 32).extractLsb 7 4 = 0 ∧
    (0x0000001A : BitVec 32).extractLsb 3 0 = 0xA ∧ (0x0000001A : BitVec 32).extractLsb 7 4 ≠ 0 ∧
    (withIn [1, 2, 3, 4, 5] keyed).STATUS.KEYED = true ∧
    (withIn [1, 2, 3, 4, 5] keyed).IN_LEN.toNat ≤ keyed.platform.IN_MAX ∧
    1 + 2 * wordBytes keyed.WSEL ≤ (withIn [1, 2, 3, 4, 5] keyed).IN_LEN.toNat ∧
    2 + 2 * wordBytes keyed.WSEL > (withIn [1, 2, 3, 4, 5] keyed).IN_LEN.toNat ∧
    { keyed with IN_LEN := 4097 }.IN_LEN.toNat > keyed.platform.IN_MAX ∧ blank.STATUS.KEYED = false := by
  decide +kernel

/-- The last offset that fits and the first that does not. -/
theorem witness_StpStoresPair :
    (0x0000000B : BitVec 32).extractLsb 3 0 = 0xB ∧ (0x0000000B : BitVec 32).extractLsb 7 4 = 0 ∧
    (0x0000008B : BitVec 32).extractLsb 3 0 = 0xB ∧ (0x0000008B : BitVec 32).extractLsb 7 4 ≠ 0 ∧
    keyed.STATUS.KEYED = true ∧ 4124 + 2 * wordBytes keyed.WSEL ≤ keyed.platform.IN_MAX + 32 ∧
    4125 + 2 * wordBytes keyed.WSEL > keyed.platform.IN_MAX + 32 ∧ blank.STATUS.KEYED = false ∧
    3 < wordBytes Width.w32 ∧ (4123 : Nat) < 4124 := by decide +kernel

theorem witness_UpperBitsOfPairAreIgnored :
    keyed.STATUS.BUSY = false ∧ (0xFFFFFFFFFFFF0000 : Word) &&& mask keyed.WSEL = keyed.A &&& mask keyed.WSEL ∧ keyed.STATUS.KEYED = true ∧
    check .encp keyed = none ∧ check (.stp 4124) keyed = none ∧
    (∃ t, exec .encp keyed = .next t) ∧ (∃ t, exec (.stp 4124) keyed = .next t) := by
  refine ⟨by decide +kernel, by decide +kernel, by decide +kernel, by decide +kernel, by decide +kernel, ?_, ?_⟩ <;>
    rw [exec_eq_finish] <;> exact finish_total _ _ _

/-- Both sides of `klen = HLEN`, and the last byte of a truncated chunk. -/
theorem witness_KdfKeepsTrailingBytes :
    1 ≤ demoPlatform.HLEN ∧ (8 : Nat) ≤ demoPlatform.HLEN ∧ 7 < demoPlatform.HLEN ∧
    (1 + 1) * demoPlatform.HLEN ≤ 12 + 4 ∧ (0 + 1) * demoPlatform.HLEN ≤ 8 + 0 := by decide +kernel

theorem witness_SplitKeyIsLittleEndian : 1 < keyWordCount keyed ∧ keyWordCount keyed ≤ 2 := by decide +kernel

theorem witness_SeedTableAddsQ : 5 < subkeyCount keyed ∧ subkeyCount keyed ≤ 6 := by decide +kernel

/-- The iterates of the loop body on the engine of V-KS1 are the sequence the statement asks for. -/
theorem witness_MixingRunsIterations :
    1 ≤ keyed.KLEN.toNat ∧ 5 < subkeyCount keyed ∧ subkeyCount keyed ≤ 6 ∧ 1 < keyWordCount keyed ∧
    keyWordCount keyed ≤ 2 ∧
    ∃ f : Nat → State,
      f 0 = { keyed with KA := 0, KB := 0, KI := 0, KJ := 0
                         KN := BitVec.ofNat 11 (3 * max (subkeyCount keyed) (keyWordCount keyed)) } ∧
      ∀ n, n < 3 * max (subkeyCount keyed) (keyWordCount keyed) → ∃ a b : Word,
        a = rotl keyed.WSEL ((subkey (f n) (f n).KI.toNat + (f n).KA + (f n).KB) &&& mask keyed.WSEL) 3 ∧
        b = rotl keyed.WSEL ((tableGet (f n).L (f n).KJ.toNat 0 + a + (f n).KB) &&& mask keyed.WSEL)
          (a + (f n).KB) ∧
        f (n + 1) = { f n with
          S := (f n).S.setIfInBounds (f n).KI.toNat a
          KA := a
          KI := BitVec.ofNat 9 (((f n).KI.toNat + 1) % subkeyCount keyed)
          L := (f n).L.setIfInBounds (f n).KJ.toNat b
          KB := b
          KJ := BitVec.ofNat 7 (((f n).KJ.toNat + 1) % keyWordCount keyed)
          KN := (f n).KN - 1 } := by
  refine ⟨by decide +kernel, by decide +kernel, by decide +kernel, by decide +kernel, by decide +kernel,
    fun n => mixStep^[n] (startMix keyed), rfl, fun n _ => ⟨_, _, rfl, rfl, ?_⟩⟩
  obtain ⟨hw, ht, hc⟩ := mixStep_iterate_counts (startMix keyed) n
  rw [show subkeyCount keyed = subkeyCount (mixStep^[n] (startMix keyed)) from ht.symm,
    show keyWordCount keyed = keyWordCount (mixStep^[n] (startMix keyed)) from hc.symm,
    show keyed.WSEL = (mixStep^[n] (startMix keyed)).WSEL from hw.symm]
  exact Function.iterate_succ_apply' mixStep n (startMix keyed)

/-- The greatest operands, a length at the capacity and one above it, each invalid configuration, and words of both
kinds. -/
theorem witness_InitConstructsEngine :
    (0x00FFFF31 : BitVec 32).extractLsb 3 0 = 0x1 ∧ (0x00FFFF31 : BitVec 32).extractLsb 31 24 = 0 ∧
    (0x00FFFF31 : BitVec 32).extractLsb 7 6 = 0 ∧ (0x00000041 : BitVec 32).extractLsb 7 6 ≠ 0 ∧
    (0x01000001 : BitVec 32).extractLsb 31 24 ≠ 0 ∧
    WellFormed (.init 2 255 255) = true ∧ WellFormed (.init 3 0 1) = true ∧ WellFormed (.init 0 0 0) = true ∧
    blank.platform.wf ∧ blank.STATUS.KEYED = false ∧ Width.w64.bits = 16 * 2 ^ 2 ∧ 1 ≤ (255 : Nat) ∧
    { blank with PWD_LEN := 256 }.PWD_LEN.toNat ≤ blank.platform.PWD_MAX ∧
    { blank with PWD_LEN := 257 }.PWD_LEN.toNat > blank.platform.PWD_MAX ∧ keyed.STATUS.KEYED = true := by
  decide +kernel

theorem witness_InitDependsOnPasswordAlone :
    (withPwd blank).platform.wf ∧
    (withPwd blank).platform = { withPwd blank with A := 7, IN_LEN := 9 }.platform ∧
    (withPwd blank).PWD_LEN = { withPwd blank with A := 7, IN_LEN := 9 }.PWD_LEN ∧
    (∀ o, o < (withPwd blank).PWD_LEN.toNat →
      byteAt (withPwd blank) .password o = byteAt { withPwd blank with A := 7, IN_LEN := 9 } .password o) ∧
    WellFormed (.init 0 2 3) = true ∧ check (.init 0 2 3) (withPwd blank) = none ∧
    check (.init 0 2 3) { withPwd blank with A := 7, IN_LEN := 9 } = none :=
  ⟨by decide +kernel, rfl, rfl, fun _ _ => rfl, by decide, by decide +kernel, by decide +kernel⟩

/-- A step that leaves the engine keyed, and the three that end it. -/
theorem witness_KeyedTablesNeverChange :
    keyed.STATUS.KEYED = true ∧ clearing.STATUS.KEYED = true ∧
    (Inv { keyed with turns := [.host (.readReg 1)] } ∧
      ∃ t, step { keyed with turns := [.host (.readReg 1)] } = .next t ∧ (t.STATUS.KEYED == true) = true) ∧
    (Inv { keyed with turns := [.reset] } ∧
      ∃ t, step { keyed with turns := [.reset] } = .next t ∧ (t.STATUS.KEYED == false) = true) ∧
    (Inv { keyed with turns := [.command 0x0000000C] } ∧
      ∃ t, step { keyed with turns := [.command 0x0000000C] } = .next t ∧ (t.STATUS.KEYED == false) = true) ∧
    (Inv clearing ∧ ∃ t, step clearing = .next t ∧ (t.STATUS.KEYED == false) = true) := by
  refine ⟨by decide +kernel, by decide +kernel, ⟨inv_turns keyed_inv _, ?_⟩, ⟨inv_turns keyed_inv _, ?_⟩, ⟨inv_turns keyed_inv _, ?_⟩,
    ⟨clearing_inv, ?_⟩⟩
  · exact exists_of_yields (p := fun t => t.STATUS.KEYED == true) (by decide +kernel)
  · exact exists_of_yields (p := fun t => t.STATUS.KEYED == false) (by decide +kernel)
  · exact exists_of_yields (p := fun t => t.STATUS.KEYED == false) (by decide +kernel)
  · exact exists_of_yields (p := fun t => t.STATUS.KEYED == false) (by decide +kernel)

theorem witness_DecryptPairInvertsEncryptPair : Fits keyed.WSEL 0xFFFF ∧ Fits keyed.WSEL 0x0001 := by
  decide +kernel

theorem witness_ZeroRoundsAddKeysOnly : blank.R = 0 := by decide +kernel

/-- The trace of V-BC3. -/
def traceBC3 : Nat → Word × Word
  | 0 => (0x0C5C, 0x7DE2)
  | 1 => (0x9BEB, 0x3610)
  | _ => (0xFB63, 0x9BD9)

theorem witness_EncryptPairRunsRoundsInOrder :
    traceBC3 0 = ((0x1234 + subkey keyed 0) &&& mask keyed.WSEL, (0xABCD + subkey keyed 1) &&& mask keyed.WSEL) ∧
    ∀ rc, rc < keyed.R.toNat →
      (traceBC3 (rc + 1)).1 =
        (rotl keyed.WSEL ((traceBC3 rc).1 ^^^ (traceBC3 rc).2) (traceBC3 rc).2 + subkey keyed (2 * (rc + 1))) &&&
          mask keyed.WSEL ∧
      (traceBC3 (rc + 1)).2 =
        (rotl keyed.WSEL ((traceBC3 rc).2 ^^^ (traceBC3 (rc + 1)).1) (traceBC3 (rc + 1)).1 +
          subkey keyed (2 * (rc + 1) + 1)) &&& mask keyed.WSEL := by decide +kernel

theorem witness_DecryptPairRunsRoundsInReverse :
    traceBC3 keyed.R.toNat = (0xFB63, 0x9BD9) ∧
    (∀ rc, rc < keyed.R.toNat →
      (traceBC3 rc).2 =
        rotr keyed.WSEL (((traceBC3 (rc + 1)).2 - subkey keyed (2 * (rc + 1) + 1)) &&& mask keyed.WSEL)
          (traceBC3 (rc + 1)).1 ^^^ (traceBC3 (rc + 1)).1 ∧
      (traceBC3 rc).1 =
        rotr keyed.WSEL (((traceBC3 (rc + 1)).1 - subkey keyed (2 * (rc + 1))) &&& mask keyed.WSEL)
          (traceBC3 rc).2 ^^^ (traceBC3 rc).2) := by decide +kernel

theorem witness_EncpEncryptsPair :
    keyed.STATUS.KEYED = true ∧ blank.STATUS.KEYED = false ∧
    (0x00000014 : BitVec 32).extractLsb 3 0 = 0x4 ∧ (0x00000014 : BitVec 32).extractLsb 31 4 ≠ 0 := by decide +kernel

theorem witness_DecpDecryptsPair :
    keyed.STATUS.KEYED = true ∧ blank.STATUS.KEYED = false ∧
    (0x80000005 : BitVec 32).extractLsb 3 0 = 0x5 ∧ (0x80000005 : BitVec 32).extractLsb 31 4 ≠ 0 := by decide +kernel

theorem witness_CountersKeepLastValues :
    check .encp keyed = none ∧ check .decp keyed = none ∧ check .enc { keyed with IN_LEN := 4096 } = none ∧
    check .dec { keyed with IN_LEN := 8 } = none ∧ blank.platform.wf ∧ WellFormed (.init 2 255 255) = true ∧
    check (.init 2 255 255) blank = none := by decide +kernel

/-- An aligned message at the capacity. -/
theorem witness_UnpadRestoresPaddedMessage :
    keyed.platform.wf ∧ keyed.STATUS.KEYED = true ∧
    { keyed with IN_LEN := 4096 }.IN_LEN.toNat ≤ keyed.platform.IN_MAX ∧
    { keyed with IN_LEN := 4096 }.IN_LEN.toNat % blockSize keyed.WSEL = 0 := by decide +kernel

theorem witness_PadAppendsShortestFiller :
    ([] : List Byte).length < 4 ∧ 4 % blockSize .w16 = 0 ∧ ([1, 2, 3, 4] : List Byte).length < 8 := by decide

/-- Each of the three ways not to be valid, and a valid filler as long as the input. -/
theorem witness_UnpadStripsOrLeaves :
    ([0x41, 0] : List Byte).getLast? = some 0 ∧ ([2] : List Byte).getLast? = some 2 ∧
    (2 : Byte).toNat > ([2] : List Byte).length ∧
    ([0x41, 2, 3, 3] : List Byte).getLast? = some 3 ∧ ([0x41, 2, 3, 3] : List Byte).getD 1 0 ≠ 3 ∧
    ([4, 4, 4, 4] : List Byte).getLast? = some 4 ∧ (4 : Byte) ≠ 0 ∧
    (∀ i, i < 4 → ([4, 4, 4, 4] : List Byte).getD i 0 = 4) := by decide

/-- A length at the capacity and one above it. -/
theorem witness_PadCommandWritesPaddedMessage :
    (0x00000016 : BitVec 32).extractLsb 3 0 = 0x6 ∧ (0x00000016 : BitVec 32).extractLsb 31 4 ≠ 0 ∧
    keyed.platform.wf ∧ keyed.STATUS.KEYED = true ∧
    { keyed with IN_LEN := 4096 }.IN_LEN.toNat ≤ keyed.platform.IN_MAX ∧ blank.STATUS.KEYED = false ∧
    { keyed with IN_LEN := 4097 }.IN_LEN.toNat > keyed.platform.IN_MAX := by decide +kernel

/-- A length at the capacity and one above it. -/
theorem witness_UnpadCommandCopiesAndMeasures :
    (0x80000007 : BitVec 32).extractLsb 3 0 = 0x7 ∧ (0x80000007 : BitVec 32).extractLsb 31 4 ≠ 0 ∧
    keyed.STATUS.KEYED = true ∧ { keyed with IN_LEN := 4096 }.IN_LEN.toNat ≤ keyed.platform.IN_MAX ∧
    blank.STATUS.KEYED = false ∧ { keyed with IN_LEN := 4097 }.IN_LEN.toNat > keyed.platform.IN_MAX := by
  decide +kernel

/-- The last block, whole padding, of a message of one block. -/
theorem witness_PaddedPairIsBlockOfPaddedMessage :
    1 < ((withIn [1, 2, 3, 4] keyed).IN_LEN.toNat + padLength keyed.WSEL (withIn [1, 2, 3, 4] keyed).IN_LEN.toNat) /
      blockSize keyed.WSEL := by decide +kernel

/-- A length at the capacity and one above it. -/
theorem witness_EncChainsBlocks :
    (0x00000012 : BitVec 32).extractLsb 3 0 = 0x2 ∧ (0x00000012 : BitVec 32).extractLsb 31 4 ≠ 0 ∧
    keyed.platform.wf ∧ keyed.STATUS.KEYED = true ∧
    { keyed with IN_LEN := 4096 }.IN_LEN.toNat ≤ keyed.platform.IN_MAX ∧ blank.STATUS.KEYED = false ∧
    { keyed with IN_LEN := 4097 }.IN_LEN.toNat > keyed.platform.IN_MAX := by decide +kernel

/-- Two blocks, the least length; one block and a length that is no multiple are E_CTLEN. -/
theorem witness_DecUnchainsBlocks :
    (0x00000013 : BitVec 32).extractLsb 3 0 = 0x3 ∧ (0x00000013 : BitVec 32).extractLsb 31 4 ≠ 0 ∧
    keyed.platform.wf ∧ keyed.STATUS.KEYED = true ∧
    { keyed with IN_LEN := 8 }.IN_LEN.toNat ≤ keyed.platform.IN_MAX ∧
    { keyed with IN_LEN := 8 }.IN_LEN.toNat % blockSize keyed.WSEL = 0 ∧
    2 * blockSize keyed.WSEL ≤ { keyed with IN_LEN := 8 }.IN_LEN.toNat ∧ blank.STATUS.KEYED = false ∧
    { keyed with IN_LEN := 4097 }.IN_LEN.toNat > keyed.platform.IN_MAX ∧
    { keyed with IN_LEN := 4 }.IN_LEN.toNat < 2 * blockSize keyed.WSEL ∧
    { keyed with IN_LEN := 9 }.IN_LEN.toNat % blockSize keyed.WSEL ≠ 0 := by decide +kernel

/-- V-CBC2: the message `41`, and the state in which the host has copied the ciphertext back. -/
def messageState : State := { withIn [0x41] keyed with rngAnswers := [0xAAAA, 0x5555] }

/-- The ciphertext of V-CBC2 in IN. -/
def copiedState : State := withIn [0x69, 0x78, 0x59, 0x76, 0x4D, 0x46, 0x5A, 0x99] keyed

theorem witness_CbcRoundTrip :
    messageState.platform.wf ∧ messageState.STATUS.KEYED = true ∧
    messageState.IN_LEN.toNat + 32 ≤ messageState.platform.IN_MAX ∧
    ∃ t, exec .enc messageState = .next t ∧ ∃ u : State,
      u.platform = t.platform ∧ u.STATUS.KEYED = true ∧ u.WSEL = t.WSEL ∧ u.R = t.R ∧ u.S = t.S ∧
      u.IN_LEN = t.OUT_LEN ∧ ∀ o, o < t.OUT_LEN.toNat → byteAt u .input o = byteAt t .output o := by
  refine ⟨by decide +kernel, by decide +kernel, by decide +kernel, ?_⟩
  obtain ⟨t, ht, h⟩ := exists_of_yields (o := exec .enc messageState)
    (p := fun (t : State) => decide (t.STATUS.KEYED = true ∧ t.OUT_LEN.toNat = 8 ∧
      ∀ o : Nat, o < 8 → byteAt copiedState .input o = byteAt t .output o)) (by decide +kernel)
  obtain ⟨hk, hl, hb⟩ := of_decide_eq_true h
  refine ⟨t, ht, { t with IN := copiedState.IN, IN_LEN := t.OUT_LEN, epoch := copiedState.epoch },
    rfl, hk, rfl, rfl, rfl, rfl, fun o ho => ?_⟩
  exact hb o (by omega)

/-- The boundary of the length: the empty message at `w = 64` in a buffer of 32 bytes. -/
def tightState : State :=
  { keyedAt .w64 with
    platform := { demoPlatform with IN_MAX := 32 }
    rngAnswers := [0x1111111111111111, 0x2222222222222222] }

/-- At the boundary the ciphertext fills IN exactly, and the copy passes DEC's checks. -/
theorem witness_CbcRoundTrip_tight :
    tightState.platform.wf ∧ tightState.STATUS.KEYED = true ∧ tightState.IN_LEN = 0 ∧
    tightState.IN_LEN.toNat + 32 ≤ tightState.platform.IN_MAX ∧
    ∃ t, exec .enc tightState = .next t ∧ ∃ u : State,
      u.platform = t.platform ∧ u.STATUS.KEYED = true ∧ u.WSEL = t.WSEL ∧ u.R = t.R ∧ u.S = t.S ∧
      u.IN_LEN = t.OUT_LEN ∧ (∀ o, o < t.OUT_LEN.toNat → byteAt u .input o = byteAt t .output o) ∧
      t.OUT_LEN = 32 ∧ check .dec u = none := by
  refine ⟨by decide +kernel, by decide +kernel, by decide +kernel, by decide +kernel, ?_⟩
  obtain ⟨t, ht, h⟩ := exists_of_yields (o := exec .enc tightState)
    (p := fun (t : State) => decide (t.STATUS.KEYED = true ∧ t.OUT_LEN = 32 ∧
      check .dec { t with IN := t.OUT, IN_LEN := t.OUT_LEN } = none ∧
      ∀ o : Nat, o < 32 → byteAt { t with IN := t.OUT, IN_LEN := t.OUT_LEN } .input o = byteAt t .output o))
    (by decide +kernel)
  obtain ⟨hk, hl, hc, hb⟩ := of_decide_eq_true h
  refine ⟨t, ht, { t with IN := t.OUT, IN_LEN := t.OUT_LEN }, rfl, hk, rfl, rfl, rfl, rfl, fun o ho => ?_, hl, hc⟩
  exact hb o (by rw [hl] at ho; exact ho)

theorem witness_ClrLeavesResetState :
    (0x0000001C : BitVec 32).extractLsb 3 0 = 0xC ∧ (0x0000001C : BitVec 32).extractLsb 31 4 ≠ 0 ∧
    (accepted .clr keyed).STATUS.ERR = false ∧ (accepted .clr keyed).STATUS.ERRCODE = 0 ∧
    (accepted .clr keyed).STATUS.PADNV = false := by decide +kernel

theorem witness_RegisterReadTable :
    (0 : Nat) ≠ 1 ∧ (8 : Nat) ≤ 8 ∧ (7 : Nat) ≠ 1 ∧ (accepted .enc keyed).STATUS.BUSY = true ∧
    keyed.STATUS.BUSY = false := by decide +kernel

theorem witness_RegisterWriteTable :
    (2 : Nat) ≠ 0 ∧ (5 : Nat) ≠ 1 ∧ (8 : Nat) ≤ 8 ∧ (accepted .enc keyed).STATUS.BUSY = true ∧
    keyed.STATUS.BUSY = false := by decide +kernel

theorem witness_BufferAccessTable :
    keyed.STATUS.BUSY = false ∧ Buf.input ≠ .output ∧ 4095 < capacity keyed.platform .input ∧
    255 < capacity keyed.platform .password ∧ Buf.output ≠ .password ∧ 4127 < capacity keyed.platform .output ∧
    capacity keyed.platform .input ≤ 4096 ∧ capacity keyed.platform .output ≤ 4128 ∧
    (accepted .enc keyed).STATUS.BUSY = true := by decide +kernel

theorem witness_StatusRegisterLayout :
    (0x20 : BitVec 64).getLsbD 5 = true ∧ (0xFFFFFFFFFFFFFFDF : BitVec 64).getLsbD 5 = false := by decide

theorem witness_CfgIsAView : Inv blank ∧ blank.STATUS.KEYED = false ∧ blank.STATUS.BUSY = false :=
  ⟨blank_inv, by decide +kernel, by decide +kernel⟩

theorem witness_BusyLockOutLeavesCommandAlone :
    HostAccess.writeReg 6 5 ≠ .readReg 1 ∧ (accepted .enc keyed).STATUS.BUSY = true ∧ clearing.STATUS.BUSY = true ∧ ∃ t, seqStep clearing = .next t := by
  refine ⟨by decide, by decide +kernel, by decide +kernel, ?_⟩
  obtain ⟨t, h, -⟩ := exists_of_yields (o := seqStep clearing) (p := fun _ => true) (by decide +kernel)
  exact ⟨t, h⟩

/-- One access of each kind on the list, at the boundary of its range. -/
theorem witness_HerrSetByRefusalOnly_list :
    RefusedAccess keyed (.readReg 0) ∧ RefusedAccess keyed (.readReg 8) ∧ RefusedAccess clearing (.readReg 7) ∧
    RefusedAccess keyed (.writeReg 2 0) ∧ RefusedAccess keyed (.writeReg 5 0) ∧
    RefusedAccess clearing (.writeReg 0 2) ∧ RefusedAccess keyed (.readByte .password 0) ∧
    RefusedAccess keyed (.readByte .output 4128) ∧ RefusedAccess keyed (.writeByte .output 0 1) ∧
    RefusedAccess keyed (.writeByte .input 4096 1) ∧ ¬ RefusedAccess keyed (.readByte .output 4127) ∧
    ¬ RefusedAccess clearing (.readReg 1) := by
  unfold RefusedAccess
  decide +kernel

/-- A refused host access and a refused command turn set HERR; a write of bit 5 and a reset clear it. -/
theorem witness_HerrSetByRefusalOnly :
    RefusedAccess { keyed with turns := [.host (.readReg 0)] } (.readReg 0) ∧
    keyed.STATUS.HERR = false ∧ clearing.STATUS.HERR = false ∧
    (∃ t, step { keyed with turns := [.host (.readReg 0)] } = .next t ∧ t.STATUS.HERR = true) ∧
    (∃ t, step { clearing with turns := [.command 0x00000002] } = .next t ∧ t.STATUS.HERR = true) ∧
    (refuseAccess keyed).STATUS.HERR = true ∧
    (∃ t, step { refuseAccess keyed with turns := [.host (.writeReg 1 0x20)] } = .next t ∧
      (!t.STATUS.HERR) = true) ∧
    (∃ t, step { refuseAccess keyed with turns := [.reset] } = .next t ∧ (!t.STATUS.HERR) = true) := by
  refine ⟨.inl rfl, by decide +kernel, by decide +kernel, ?_, ?_, by decide +kernel, ?_, ?_⟩
  · exact exists_of_yields (p := fun t => t.STATUS.HERR) (by decide +kernel)
  · exact exists_of_yields (p := fun t => t.STATUS.HERR) (by decide +kernel)
  · exact exists_of_yields (p := fun t => !t.STATUS.HERR) (by decide +kernel)
  · exact exists_of_yields (p := fun t => !t.STATUS.HERR) (by decide +kernel)

theorem witness_ResetInputTakesEffectAtOnce :
    { clearing with turns := [.reset, .sequencer] }.turns = .reset :: [.sequencer] := by decide +kernel

theorem witness_StepKeepsInvariant :
    (Inv clearing ∧ ∃ t, step clearing = .next t ∧ (t.STATUS.DONE) = true) ∧
    (Inv { keyed with turns := [.command 0x00000004] } ∧
      ∃ t, step { keyed with turns := [.command 0x00000004] } = .next t ∧ (t.STATUS.DONE) = true) :=
  ⟨⟨clearing_inv, exists_of_yields (p := fun t => t.STATUS.DONE) (by decide +kernel)⟩,
    inv_turns keyed_inv _, exists_of_yields (p := fun t => t.STATUS.DONE) (by decide +kernel)⟩

theorem witness_InvariantStatesNeverStop : Inv blank ∧ Inv clearing := ⟨blank_inv, clearing_inv⟩

/-- Two states that differ in the password, the key, the subkeys and the chaining value. -/
theorem witness_HostSeesNoHiddenState :
    HostEqual keyed { withPwd keyed with PWD_LEN := 0, CV0 := 5, S := blank.S, KEY := blank.KEY } ∧
    keyed.readData = { withPwd keyed with PWD_LEN := 0, CV0 := 5, S := blank.S, KEY := blank.KEY }.readData ∧
    subkey keyed 0 ≠ subkey blank 0 :=
  ⟨⟨rfl, rfl, rfl, rfl, rfl, rfl, rfl, rfl, fun _ _ => rfl, fun _ _ => rfl⟩, rfl, by decide +kernel⟩

theorem witness_CommandsLeaveInputsAlone :
    (∃ t, exec .enc keyed = .next t) ∧ ∃ t, seqStep clearing = .next t := by
  constructor
  · rw [exec_eq_finish]
    exact finish_total _ _ _
  · obtain ⟨t, h, -⟩ := exists_of_yields (o := seqStep clearing) (p := fun _ => true) (by decide +kernel)
    exact ⟨t, h⟩

/-- One command that changes each of A, B, OUT and OUT_LEN. -/
theorem witness_ResultRegistersHaveTheirWriters :
    (∃ t, exec .encp keyed = .next t ∧ decide (t.A ≠ keyed.A ∧ t.B ≠ keyed.B) = true) ∧
    (∃ t, exec .pad keyed = .next t ∧ decide (t.OUT ≠ keyed.OUT ∧ t.OUT_LEN ≠ keyed.OUT_LEN) = true) :=
  ⟨exists_of_yields (p := fun t => decide (t.A ≠ keyed.A ∧ t.B ≠ keyed.B)) (by decide +kernel),
    exists_of_yields (p := fun t => decide (t.OUT ≠ keyed.OUT ∧ t.OUT_LEN ≠ keyed.OUT_LEN)) (by decide +kernel)⟩

end Sys2Proof.Tests
end

/-! PROOFS. The STATUS and CFG words field by field, and the state after reset (spec 10_state R31, R38, R48). -/

namespace Sys2Proof.Proofs

open Sys2Proof Sys2Proof.Machine

/-! ### The STATUS word (R31) -/

/-- A flag placed at a bit of a register word shows at that bit only. -/
theorem getLsbD_flagBit (f : Bool) {pos : Nat} (hpos : pos < 32) (i : Nat) :
    (flagBit f pos).getLsbD i = (f && decide (pos = i)) := by
  cases f with
  | false => simp [flagBit]
  | true =>
    have h : flagBit true pos = BitVec.twoPow 32 pos := BitVec.eq_of_toNat_eq (by simp [flagBit])
    simp [h, hpos]

/-- Bits 7:0 of STATUS are the six flags in their order, then two reserved zeros. -/
theorem getLsbD_statusWord_low (t : Status) {i : Nat} (hi : i < 8) :
    (statusWord t).getLsbD i = [t.BUSY, t.KEYED, t.DONE, t.ERR, t.PADNV, t.HERR].getD i false := by
  have herr : (t.ERRCODE.setWidth 32 <<< 8).getLsbD i = false := by
    simp only [BitVec.getLsbD_shiftLeft, hi, decide_true, Bool.not_true, Bool.and_false, Bool.false_and]
  simp only [statusWord, BitVec.getLsbD_or, getLsbD_flagBit, Nat.reduceLT, herr]
  interval_cases i <;> simp

/-- Bits 31:8 of STATUS are ERRCODE, then zeros. -/
theorem getLsbD_statusWord_high (t : Status) (i : Nat) :
    (statusWord t).getLsbD (8 + i) = t.ERRCODE.getLsbD i := by
  have hflag (f : Bool) {pos : Nat} (hpos : pos < 6) : (flagBit f pos).getLsbD (8 + i) = false := by
    rw [getLsbD_flagBit f (by omega), decide_eq_false (by omega), Bool.and_false]
  by_cases hi : i < 4
  · have hi32 : i < 32 := by omega
    have hi40 : 8 + i < 32 := by omega
    simp [-BitVec.getLsbD_eq_getElem, statusWord, hflag, hi32, hi40]
  · simp [statusWord, hflag, Nat.not_lt.mp hi]

theorem extractLsb_statusWord_7_6 (t : Status) : (statusWord t).extractLsb 7 6 = 0 := by
  apply BitVec.eq_of_getLsbD_eq
  intro i hi
  rw [BitVec.getLsbD_extractLsb, getLsbD_statusWord_low t (by omega)]
  simp

theorem extractLsb_statusWord_errcode (t : Status) : (statusWord t).extractLsb 11 8 = t.ERRCODE := by
  apply BitVec.eq_of_getLsbD_eq
  intro i hi
  rw [BitVec.getLsbD_extractLsb, getLsbD_statusWord_high, decide_eq_true hi, Bool.true_and]

theorem extractLsb_statusWord_31_12 (t : Status) : (statusWord t).extractLsb 31 12 = 0 := by
  apply BitVec.eq_of_getLsbD_eq
  intro i hi
  have hpos : 12 + i = 8 + (4 + i) := by omega
  rw [BitVec.getLsbD_extractLsb, hpos, getLsbD_statusWord_high]
  simp

theorem statusWord_reset : statusWord State.reset.STATUS = 0 := by decide

/-- A host write to STATUS looks at bit 5 of the value alone, and can only clear HERR. -/
theorem hostAccess_writeReg_status (v : BitVec 64) (s : State) :
    hostAccess (.writeReg 1 v) s =
      if v.getLsbD 5 then { s with STATUS := { s.STATUS with HERR := false } } else s := by
  simp [hostAccess, writeReg, writeStatus]

/-- Settles O49: the fields of STATUS, its reset value and its one writable bit. -/
theorem statusRegisterLayout : Obligations.StatusRegisterLayout := by
  intro t s v
  exact ⟨getLsbD_statusWord_low t (i := 0) (by decide), getLsbD_statusWord_low t (i := 1) (by decide),
    getLsbD_statusWord_low t (i := 2) (by decide), getLsbD_statusWord_low t (i := 3) (by decide),
    getLsbD_statusWord_low t (i := 4) (by decide), getLsbD_statusWord_low t (i := 5) (by decide),
    extractLsb_statusWord_7_6 t, extractLsb_statusWord_errcode t, extractLsb_statusWord_31_12 t,
    statusWord_reset, rfl,
    fun h => by rw [hostAccess_writeReg_status, if_pos h],
    fun h => by rw [hostAccess_writeReg_status, if_neg (Bool.eq_false_iff.mp h)]⟩

/-! ### The CFG word (R38) -/

/-- The three latches do not overlap in CFG: as a number the word is the sum of their shifted values. -/
theorem toNat_cfgWord (s : State) :
    (cfgWord s).toNat = 2 ^ 16 * s.KLEN.toNat + (2 ^ 8 * s.R.toNat + 2 ^ 4 * (selOfWidth s.WSEL).toNat) := by
  have hsel := (selOfWidth s.WSEL).isLt
  have hr := s.R.isLt
  have hk := s.KLEN.isLt
  rw [Nat.two_pow_add_eq_or_of_lt (by omega), Nat.two_pow_add_eq_or_of_lt (by omega)]
  simp only [cfgWord, BitVec.toNat_or, BitVec.toNat_shiftLeft, BitVec.toNat_setWidth, Nat.shiftLeft_eq]
  rw [Nat.or_comm, Nat.or_comm ((selOfWidth s.WSEL).toNat % _ * _ % _)]
  congr 2 <;> omega

/-- A field of CFG, read off the number that the word is. -/
theorem toNat_extractLsb_cfgWord (s : State) (hi lo : Nat) :
    ((cfgWord s).extractLsb hi lo).toNat =
      (2 ^ 16 * s.KLEN.toNat + (2 ^ 8 * s.R.toNat + 2 ^ 4 * (selOfWidth s.WSEL).toNat)) / 2 ^ lo %
        2 ^ (hi - lo + 1) := by
  rw [BitVec.extractLsb_toNat, toNat_cfgWord, Nat.shiftRight_eq_div_pow]

/-- The layout of CFG from bit 0 up. -/
theorem extractLsb_cfgWord (s : State) :
    (cfgWord s).extractLsb 3 0 = 0 ∧ (cfgWord s).extractLsb 5 4 = selOfWidth s.WSEL ∧
    (cfgWord s).extractLsb 7 6 = 0 ∧ (cfgWord s).extractLsb 15 8 = s.R ∧
    (cfgWord s).extractLsb 23 16 = s.KLEN ∧ (cfgWord s).extractLsb 31 24 = 0 := by
  have hsel := (selOfWidth s.WSEL).isLt
  have hr := s.R.isLt
  have hk := s.KLEN.isLt
  refine ⟨?_, ?_, ?_, ?_, ?_, ?_⟩ <;> apply BitVec.eq_of_toNat_eq <;>
    simp only [toNat_extractLsb_cfgWord, BitVec.ofNat_eq_ofNat, BitVec.toNat_ofNat] <;> omega

/-- The selector names its width: `w = 16 * 2^WSEL` (00_scope R5). -/
theorem bits_eq_of_selOfWidth (w : Width) : 16 * 2 ^ (selOfWidth w).toNat = w.bits := by
  cases w <;> rfl

/-- Zero latches make CFG read 0. -/
theorem cfgWord_eq_zero {s : State} (hw : s.WSEL = .w16) (hr : s.R = 0) (hk : s.KLEN = 0) : cfgWord s = 0 := by
  simp [cfgWord, selOfWidth, hw, hr, hk]

/-- No INIT is at work in an idle state. -/
theorem not_building_of_idle {s : State} (h : Inv s) (hb : s.STATUS.BUSY = false) : s.PHASE.building = false := by
  have hidle : s.PHASE = .IDLE := by
    by_contra hne
    exact Bool.false_ne_true (hb.symm.trans (h.busy.mpr hne))
  rw [hidle]; rfl

/-- Settles O50: the fields of CFG, and its zero reading while the engine is neither keyed nor busy. -/
theorem cfgIsAView : Obligations.CfgIsAView := by
  intro s
  obtain ⟨h0, hsel, h6, hr, hk, h24⟩ := extractLsb_cfgWord s
  refine ⟨h0, ?_, h6, hr, hk, h24, fun hinv hkeyed hbusy => ?_⟩
  · rw [hsel, bits_eq_of_selOfWidth]
  · obtain ⟨hw, hr, hk, -, -⟩ := hinv.unkeyed hkeyed (not_building_of_idle hinv hbusy)
    exact cfgWord_eq_zero hw hr hk

/-! ### The state after reset (R48) -/

/-- A table of equal entries reads as that entry below its size. -/
theorem tableGet_replicate {α : Type} (x outside : α) {n i : Nat} (hi : i < n) :
    tableGet (Vector.replicate n x) i outside = x := by
  simp [tableGet, hi]

/-- Settles O53: after reset every listed element is 0; the tables' entries are 0 below their sizes. -/
theorem resetStateIsZero : Obligations.ResetStateIsZero :=
  ⟨rfl, rfl, rfl, rfl, rfl, rfl, rfl, rfl, rfl, rfl, rfl, rfl,
    fun _ hi => tableGet_replicate 0 1 hi, fun _ hi => tableGet_replicate 0 1 hi,
    fun _ hi => tableGet_replicate 0 1 hi, List.length_replicate, fun _ hx => List.eq_of_mem_replicate hx,
    rfl, rfl, rfl, rfl, rfl, rfl, rfl, rfl,
    statusWord_reset, cfgWord_eq_zero rfl rfl rfl, rfl, rfl, rfl⟩

end Sys2Proof.Proofs

/-! PROOFS. Decoding read off the fields of a word, and the end of an illegal word (spec 30_encoding R91 to R96). -/

namespace Sys2Proof.Proofs

open Sys2Proof Sys2Proof.Machine

/-! ### Fields of a word -/

theorem bitField_lt (v : BitVec 32) (hi lo : Nat) : bitField v hi lo < 2 ^ (hi + 1 - lo) :=
  Nat.mod_lt _ (Nat.two_pow_pos _)

/-- The decoder's fields are the slices of the word, as unsigned numbers (R13). -/
theorem toNat_extractLsb_eq_bitField (v : BitVec 32) {hi lo : Nat} (h : lo ≤ hi) :
    (v.extractLsb hi lo).toNat = bitField v hi lo := by
  rw [BitVec.extractLsb_toNat, Nat.shiftRight_eq_div_pow, bitField, Nat.sub_add_comm h]

theorem extractLsb_eq_iff_bitField (v : BitVec 32) {hi lo : Nat} (h : lo ≤ hi) (c : BitVec (hi - lo + 1)) :
    v.extractLsb hi lo = c ↔ bitField v hi lo = c.toNat := by
  rw [← BitVec.toNat_inj, toNat_extractLsb_eq_bitField v h]

/-- Masking a word masks each of its fields. -/
theorem bitField_and (v m : BitVec 32) (hi lo : Nat) :
    bitField (v &&& m) hi lo = bitField v hi lo &&& bitField m hi lo := by
  simp only [bitField, BitVec.toNat_and, Nat.and_div_two_pow, Nat.and_mod_two_pow]

/-- A mask that is all ones in a field keeps the field. -/
theorem bitField_and_of_ones (v : BitVec 32) {m : BitVec 32} {hi lo : Nat}
    (hm : bitField m hi lo = 2 ^ (hi + 1 - lo) - 1) : bitField (v &&& m) hi lo = bitField v hi lo := by
  rw [bitField_and, hm, Nat.and_two_pow_sub_one_of_lt_two_pow (bitField_lt v hi lo)]

/-- A mask that is zero in a field clears the field. -/
theorem bitField_and_of_zero (v : BitVec 32) {m : BitVec 32} {hi lo : Nat} (hm : bitField m hi lo = 0) :
    bitField (v &&& m) hi lo = 0 := by
  rw [bitField_and, hm, Nat.and_zero]

/-- A word is determined by its fields in format Z (R91). -/
theorem eq_iff_fieldsZ (v c : BitVec 32) :
    v = c ↔ bitField v 3 0 = bitField c 3 0 ∧ bitField v 31 4 = bitField c 31 4 := by
  have hv := v.isLt
  have hc := c.isLt
  rw [← BitVec.toNat_inj]
  simp only [bitField]
  omega

/-- A word is determined by its fields in format O (R93). -/
theorem eq_iff_fieldsO (v c : BitVec 32) :
    v = c ↔ bitField v 3 0 = bitField c 3 0 ∧ bitField v 7 4 = bitField c 7 4 ∧
      bitField v 31 8 = bitField c 31 8 := by
  have hv := v.isLt
  have hc := c.isLt
  rw [← BitVec.toNat_inj]
  simp only [bitField]
  omega

/-- A word is determined by its fields in format K (R92), the two operand bytes taken together. -/
theorem eq_iff_fieldsK (v c : BitVec 32) :
    v = c ↔ bitField v 3 0 = bitField c 3 0 ∧ bitField v 5 4 = bitField c 5 4 ∧
      bitField v 7 6 = bitField c 7 6 ∧ bitField v 23 8 = bitField c 23 8 ∧
      bitField v 31 24 = bitField c 31 24 := by
  have hv := v.isLt
  have hc := c.isLt
  rw [← BitVec.toNat_inj]
  simp only [bitField]
  omega

/-! ### What the decoder reads -/

theorem decodeZ_eq_ok_iff (v : BitVec 32) (i j : Instr) :
    decodeZ v i = .ok j ↔ bitField v 31 4 = 0 ∧ i = j := by
  unfold decodeZ
  split <;> simp_all

theorem decodeK_eq_ok_iff (v : BitVec 32) (j : Instr) :
    decodeK v = .ok j ↔ (bitField v 31 24 = 0 ∧ bitField v 7 6 = 0) ∧
      .init (bitField v 5 4) (bitField v 15 8) (bitField v 23 16) = j := by
  unfold decodeK
  split <;> simp_all

theorem decodeO_eq_ok_iff (v : BitVec 32) (mk : Nat → Instr) (j : Instr) :
    decodeO v mk = .ok j ↔ bitField v 7 4 = 0 ∧ mk (bitField v 31 8) = j := by
  unfold decodeO
  split <;> simp_all

theorem decodeZ_eq_error_iff (v : BitVec 32) (i : Instr) :
    (∃ e, decodeZ v i = .error e) ↔ bitField v 31 4 ≠ 0 := by
  unfold decodeZ
  split <;> simp_all

theorem decodeK_eq_error_iff (v : BitVec 32) :
    (∃ e, decodeK v = .error e) ↔ bitField v 31 24 ≠ 0 ∨ bitField v 7 6 ≠ 0 := by
  unfold decodeK
  split <;> simp_all [imp_iff_not_or]

theorem decodeO_eq_error_iff (v : BitVec 32) (mk : Nat → Instr) :
    (∃ e, decodeO v mk = .error e) ↔ bitField v 7 4 ≠ 0 := by
  unfold decodeO
  split <;> simp_all

/-- The fields of a word above its opcode are those of a command: the must-be-zero fields of its format are zero, and
the others hold its operands (R91 to R93). -/
def FieldsHold (v : BitVec 32) : Instr → Prop
  | .init wsel rounds klen =>
      (bitField v 31 24 = 0 ∧ bitField v 7 6 = 0) ∧
        bitField v 5 4 = wsel ∧ bitField v 15 8 = rounds ∧ bitField v 23 16 = klen
  | .ldp off => bitField v 7 4 = 0 ∧ bitField v 31 8 = off
  | .stp off => bitField v 7 4 = 0 ∧ bitField v 31 8 = off
  | _ => bitField v 31 4 = 0

/-- The decoder answers a command exactly when the word has its opcode and its fields (R95). -/
theorem decode_eq_ok_iff (v : BitVec 32) (i : Instr) :
    decode v = .ok i ↔ bitField v 3 0 = opcode i ∧ FieldsHold v i := by
  constructor
  · intro h
    unfold decode at h
    split at h
    case h_1 hopc =>
      obtain ⟨hzero, rfl⟩ := (decodeK_eq_ok_iff v i).mp h
      exact ⟨hopc, hzero, rfl, rfl, rfl⟩
    case h_10 hopc | h_11 hopc =>
      obtain ⟨hzero, rfl⟩ := (decodeO_eq_ok_iff v _ i).mp h
      exact ⟨hopc, hzero, rfl⟩
    case h_13 => cases h
    all_goals
      obtain ⟨hzero, rfl⟩ := (decodeZ_eq_ok_iff v _ i).mp h
      exact ⟨‹_›, hzero⟩
  · rintro ⟨hopc, hfields⟩
    cases i <;> simp only [opcode] at hopc <;> simp only [decode, hopc]
    case init =>
      obtain ⟨hzero, rfl, rfl, rfl⟩ := hfields
      exact (decodeK_eq_ok_iff v _).mpr ⟨hzero, rfl⟩
    case ldp | stp =>
      obtain ⟨hzero, rfl⟩ := hfields
      exact (decodeO_eq_ok_iff v _ _).mpr ⟨hzero, rfl⟩
    all_goals exact (decodeZ_eq_ok_iff v _ _).mpr ⟨hfields, rfl⟩

/-! ### The masks (R95) -/

/-- An opcode, taken as a word, fills bits 3:0 and no others (R90). -/
theorem bitField_ofNat_opcode (i : Instr) :
    bitField (BitVec.ofNat 32 (opcode i)) 3 0 = opcode i ∧ bitField (BitVec.ofNat 32 (opcode i)) 31 4 = 0 := by
  cases i <;> simp only [opcode] <;> decide

/-- Mask and match of format Z: all 32 bits are compared. -/
theorem and_maskZ_eq_iff_decode (v : BitVec 32) {i : Instr}
    (hformat : FieldsHold v i = (bitField v 31 4 = 0)) :
    v &&& 0xFFFFFFFF = BitVec.ofNat 32 (opcode i) ↔ decode v = .ok i := by
  obtain ⟨hlow, hhigh⟩ := bitField_ofNat_opcode i
  rw [decode_eq_ok_iff, hformat, eq_iff_fieldsZ, hlow, hhigh, bitField_and_of_ones v (by decide),
    bitField_and_of_ones v (by decide)]

/-- Mask and match of format O: the offset is not compared. -/
theorem and_maskO_eq_iff_decode (v : BitVec 32) {mk : Nat → Instr} (c : BitVec 32)
    (hformat : ∀ off, FieldsHold v (mk off) = (bitField v 7 4 = 0 ∧ bitField v 31 8 = off))
    (hopc : ∀ off, opcode (mk off) = bitField c 3 0) (hc : bitField c 7 4 = 0 ∧ bitField c 31 8 = 0) :
    v &&& 0x000000FF = c ↔ ∃ off, decode v = .ok (mk off) := by
  simp only [decode_eq_ok_iff, hformat, hopc, exists_and_left, exists_eq', and_true]
  rw [eq_iff_fieldsO, hc.1, hc.2, bitField_and_of_ones v (by decide), bitField_and_of_ones v (by decide),
    bitField_and_of_zero v (by decide)]
  simp

/-- Mask and match of format K: the three operands are not compared. -/
theorem and_maskK_eq_iff_decode (v : BitVec 32) :
    v &&& 0xFF0000CF = 0x00000001 ↔ ∃ wsel rounds klen, decode v = .ok (.init wsel rounds klen) := by
  have hc : bitField 0x00000001 3 0 = 1 ∧ bitField 0x00000001 5 4 = 0 ∧ bitField 0x00000001 7 6 = 0 ∧
      bitField 0x00000001 23 8 = 0 ∧ bitField 0x00000001 31 24 = 0 := by decide
  obtain ⟨h0, h4, h6, h8, h24⟩ := hc
  rw [eq_iff_fieldsK, h0, h4, h6, h8, h24, bitField_and_of_ones v (by decide),
    bitField_and_of_zero v (by decide), bitField_and_of_ones v (by decide), bitField_and_of_zero v (by decide),
    bitField_and_of_ones v (by decide)]
  simp [decode_eq_ok_iff, FieldsHold, opcode, and_comm]

/-- Settles O4: each row of the mask table compares the opcode and the must-be-zero fields of its format, and nothing
else. -/
theorem decodeMatchesMaskTable : Obligations.DecodeMatchesMaskTable := by
  intro v
  exact ⟨and_maskK_eq_iff_decode v,
    and_maskZ_eq_iff_decode v (i := .enc) rfl, and_maskZ_eq_iff_decode v (i := .dec) rfl,
    and_maskZ_eq_iff_decode v (i := .encp) rfl, and_maskZ_eq_iff_decode v (i := .decp) rfl,
    and_maskZ_eq_iff_decode v (i := .pad) rfl, and_maskZ_eq_iff_decode v (i := .unpad) rfl,
    and_maskZ_eq_iff_decode v (i := .rotl) rfl, and_maskZ_eq_iff_decode v (i := .rotr) rfl,
    and_maskO_eq_iff_decode v (mk := .ldp) 0x0000000A (fun _ => rfl) (fun _ => rfl) (by decide),
    and_maskO_eq_iff_decode v (mk := .stp) 0x0000000B (fun _ => rfl) (fun _ => rfl) (by decide),
    and_maskZ_eq_iff_decode v (i := .clr) rfl⟩

/-! ### Operands (R94) -/

theorem widthOfSel_eq_some_iff (wsel : Nat) (w : Width) :
    widthOfSel wsel = some w ↔ wsel ≤ 2 ∧ w.bits = 16 * 2 ^ wsel := by
  match wsel with
  | 0 | 1 | 2 => cases w <;> decide
  | n + 3 => simp [widthOfSel]

/-- Settles O5: the operands are the fields the decoder read, and these are slices of the word. -/
theorem operandsAreUnsignedFields : Obligations.OperandsAreUnsignedFields := by
  intro v
  have hslice {hi lo : Nat} (h : lo ≤ hi) := toNat_extractLsb_eq_bitField v h
  refine ⟨fun wsel rounds klen h => ?_, fun off h => ?_, widthOfSel_eq_some_iff⟩
  · obtain ⟨-, -, hwsel, hrounds, hklen⟩ := (decode_eq_ok_iff v _).mp h
    rw [hslice (by decide), hslice (by decide), hslice (by decide)]
    exact ⟨hwsel.symm, hrounds.symm, hklen.symm⟩
  · rw [hslice (by decide)]
    rcases h with h | h
    all_goals
      obtain ⟨-, -, hoff⟩ := (decode_eq_ok_iff v _).mp h
      exact hoff.symm

/-! ### Illegal words (R96) -/

/-- The decoder refuses a word for a reserved opcode or a must-be-zero field of its format, and for nothing else. -/
theorem decode_eq_error_iff (v : BitVec 32) :
    (∃ e, decode v = .error e) ↔
      (bitField v 3 0 = 0x0 ∨ 0xD ≤ bitField v 3 0) ∨
      (bitField v 3 0 = 0x1 ∧ (bitField v 31 24 ≠ 0 ∨ bitField v 7 6 ≠ 0)) ∨
      ((bitField v 3 0 = 0xA ∨ bitField v 3 0 = 0xB) ∧ bitField v 7 4 ≠ 0) ∨
      (bitField v 3 0 ≠ 0x1 ∧ bitField v 3 0 ≠ 0xA ∧ bitField v 3 0 ≠ 0xB ∧ bitField v 31 4 ≠ 0) := by
  unfold decode
  split
  case h_1 hopc => simp [decodeK_eq_error_iff, hopc]
  case h_10 hopc | h_11 hopc => simp [decodeO_eq_error_iff, hopc]
  case h_13 =>
    simp only [imp_false] at *
    have hreserved : bitField v 3 0 = 0x0 ∨ 0xD ≤ bitField v 3 0 := by omega
    exact iff_of_true ⟨_, rfl⟩ (.inl hreserved)
  all_goals simp [decodeZ_eq_error_iff, *]

/-- An idle FCE ends an illegal word with E_ILLCMD in the state in which the word was accepted. -/
theorem runCommand_of_illegal {v : BitVec 32} {e : Illegal} (hv : decode v = .error e) {s : State}
    (hidle : s.STATUS.BUSY = false) : runCommand v s = .next (errorEnd .E_ILLCMD (accept v s)) := by
  simp [runCommand, hidle, hv]

/-- The DECODE step ends an illegal word with E_ILLCMD. -/
theorem seqStep_accept_of_illegal {v : BitVec 32} {e : Illegal} (hv : decode v = .error e) (s : State) :
    seqStep (accept v s) = .next (errorEnd .E_ILLCMD (accept v s)) := by
  simp [seqStep, decodeStep, hv]

/-- The error end keeps all that acceptance kept: only OPR, PHASE and STATUS differ from the idle state. -/
theorem endsIllegal_of_decode_error {v : BitVec 32} {e : Illegal} (hv : decode v = .error e) : EndsIllegal v :=
  fun _ hidle => runCommand_of_illegal hv hidle

/-- Settles O6: the illegal words are those with a reserved opcode or a nonzero must-be-zero field, and both views end
them alike. -/
theorem illegalWordEndsWithIllcmd : Obligations.IllegalWordEndsWithIllcmd := by
  intro v
  refine ⟨?_, fun e hv => ⟨endsIllegal_of_decode_error hv, fun s hidle => ?_⟩, ⟨_, rfl⟩, ⟨_, rfl⟩⟩
  · have hopc : bitField v 3 0 < 16 := bitField_lt v 3 0
    have hslice {hi lo : Nat} (h : lo ≤ hi) (c : BitVec (hi - lo + 1)) := extractLsb_eq_iff_bitField v h c
    rw [decode_eq_error_iff]
    simp only [ne_eq, hslice (show 0 ≤ 3 by decide), hslice (show 24 ≤ 31 by decide),
      hslice (show 6 ≤ 7 by decide), hslice (show 4 ≤ 7 by decide), hslice (show 4 ≤ 31 by decide),
      BitVec.toNat_ofNat, BitVec.ofNat_eq_ofNat]
    omega
  · rw [seqStep_accept_of_illegal hv, runCommand_of_illegal hv hidle]

end Sys2Proof.Proofs

/-! PROOFS. Words bit by bit, rotations, word arithmetic, and the byte order of words (spec 40_wordcodec R120 to
R125). -/

namespace Sys2Proof.Proofs

open Sys2Proof Sys2Proof.Machine

/-! ### Widths and masks -/

theorem bits_pos (w : Width) : 0 < w.bits := by cases w <;> decide

theorem bits_le (w : Width) : w.bits ≤ 64 := by cases w <;> decide

theorem bits_eq_wordBytes (w : Width) : w.bits = 8 * wordBytes w := by cases w <;> rfl

/-- A width is a power of two, and `log2(w)` bits are enough to count below it (R125). -/
theorem bits_eq_two_pow (w : Width) : ∃ k, w.bits = 2 ^ k ∧ k ≤ w.bits := by
  cases w
  exacts [⟨4, by decide⟩, ⟨5, by decide⟩, ⟨6, by decide⟩]

/-- A width divides `2^m` for every `m` that is at least the width. -/
theorem bits_dvd_two_pow (w : Width) {m : Nat} (hm : w.bits ≤ m) : w.bits ∣ 2 ^ m := by
  obtain ⟨k, hk, hle⟩ := bits_eq_two_pow w
  rw [hk]
  exact Nat.pow_dvd_pow 2 (hle.trans hm)

/-- Masking keeps the low `w` bits as a number. -/
theorem toNat_toWord (w : Width) (v : Word) : (toWord w v).toNat = v.toNat % 2 ^ w.bits := by
  have hmask : (mask w).toNat = 2 ^ w.bits - 1 := by cases w <;> rfl
  rw [toWord, BitVec.toNat_and, hmask, Nat.and_two_pow_sub_one_eq_mod]

/-- Masking keeps the low `w` bits and clears the others. -/
theorem getLsbD_toWord (w : Width) (v : Word) (i : Nat) :
    (toWord w v).getLsbD i = (decide (i < w.bits) && v.getLsbD i) := by
  rw [BitVec.getLsbD, toNat_toWord, Nat.testBit_mod_two_pow, BitVec.getLsbD]

/-- A word has no bit at or above its width. -/
theorem getLsbD_of_fits {w : Width} {v : Word} (hv : Fits w v) {i : Nat} (hi : w.bits ≤ i) :
    v.getLsbD i = false := by
  rw [← hv, getLsbD_toWord, decide_eq_false (by omega), Bool.false_and]

/-- Two words are equal when they agree below their width. -/
theorem eq_of_fits_of_getLsbD {w : Width} {u v : Word} (hu : Fits w u) (hv : Fits w v)
    (h : ∀ i, i < w.bits → u.getLsbD i = v.getLsbD i) : u = v := by
  apply BitVec.eq_of_getLsbD_eq
  intro i _
  by_cases hi : i < w.bits
  · exact h i hi
  · rw [getLsbD_of_fits hu (by omega), getLsbD_of_fits hv (by omega)]

/-! ### Rotations (R122, R123) -/

theorem amount_lt (w : Width) (s : Word) : s.toNat % w.bits < w.bits := Nat.mod_lt _ (bits_pos w)

/-- Going `a` places around a circle of `w` places, and then the rest of the way round, leads back. -/
theorem around_circle {w a b i : Nat} (hab : a + b = w) (hi : i < w) : ((i + a) % w + b) % w = i := by
  rw [Nat.mod_add_mod, Nat.add_assoc, hab, Nat.add_mod_right, Nat.mod_eq_of_lt hi]

/-- What each bit of a left rotation is. -/
theorem getLsbD_rotl (w : Width) (v s : Word) {j : Nat} (hj : j < w.bits) :
    (rotl w v s).getLsbD j = v.getLsbD ((j + (w.bits - s.toNat % w.bits)) % w.bits) := by
  have hn := amount_lt w s
  have hw := bits_le w
  simp only [rotl]
  generalize s.toNat % w.bits = n at hn
  split
  case isTrue hzero =>
    rw [hzero, Nat.sub_zero, Nat.add_mod_right, Nat.mod_eq_of_lt hj, getLsbD_toWord, decide_eq_true hj, Bool.true_and]
  case isFalse hpos =>
    simp only [getLsbD_toWord, BitVec.getLsbD_or, BitVec.getLsbD_shiftLeft, BitVec.getLsbD_ushiftRight,
      decide_eq_true hj, decide_eq_true (hj.trans_le hw), Bool.true_and]
    by_cases hlow : j < n
    · have hidx : w.bits - n + j < w.bits := by omega
      rw [decide_eq_true hlow, decide_eq_true hidx, Nat.add_comm j, Nat.mod_eq_of_lt hidx]
      simp
    · have hidx : j + (w.bits - n) = j - n + w.bits := by omega
      have hsrc : j - n < w.bits := by omega
      rw [hidx, Nat.add_mod_right, Nat.mod_eq_of_lt hsrc, decide_eq_false hlow, decide_eq_true hsrc,
        decide_eq_false (by omega)]
      simp

/-- The complement of an amount, written as a word, is taken as it is. -/
theorem toNat_complement (w : Width) (n : Nat) : (BitVec.ofNat 64 (w.bits - n)).toNat = w.bits - n := by
  have hw := bits_le w
  rw [BitVec.toNat_ofNat, Nat.mod_eq_of_lt (by omega)]

/-- A right rotation is the left rotation by the complement of its amount (R123). -/
theorem rotr_eq_rotl_complement (w : Width) (v s : Word) :
    rotr w v s = rotl w v (BitVec.ofNat 64 (w.bits - s.toNat % w.bits)) := by
  have hn := amount_lt w s
  simp only [rotr, rotl, toNat_complement]
  generalize s.toNat % w.bits = n at hn
  by_cases hzero : n = 0
  · simp [hzero]
  · rw [Nat.mod_eq_of_lt (by omega), if_neg hzero, if_neg (by omega), Nat.sub_sub_self hn.le, BitVec.or_comm]

/-- What each bit of a right rotation is. -/
theorem getLsbD_rotr (w : Width) (v s : Word) {j : Nat} (hj : j < w.bits) :
    (rotr w v s).getLsbD j = v.getLsbD ((j + s.toNat % w.bits) % w.bits) := by
  have hn := amount_lt w s
  rw [rotr_eq_rotl_complement, getLsbD_rotl w v _ hj, toNat_complement]
  generalize s.toNat % w.bits = n at hn
  by_cases hzero : n = 0
  · simp [hzero]
  · rw [Nat.mod_eq_of_lt (a := w.bits - n) (by omega), Nat.sub_sub_self hn.le]

/-- Settles O12: a bit's place in the result is read back to the place it came from. -/
theorem rotlMovesEveryBit : Obligations.RotlMovesEveryBit := by
  intro w v s
  have hn := amount_lt w s
  refine ⟨fun i hi => ?_, fits_rotl w v s, fun hzero => ?_⟩
  · rw [getLsbD_rotl w v s (Nat.mod_lt _ (bits_pos w)), around_circle (by omega) hi]
  · simp only [rotl, hzero, if_true, toWord]

/-- Rotating a word to the left and then to the right by one amount changes nothing. -/
theorem rotr_rotl {w : Width} {v : Word} (hv : Fits w v) (s : Word) : rotr w (rotl w v s) s = v := by
  have hn := amount_lt w s
  refine eq_of_fits_of_getLsbD (fits_rotr w _ s) hv fun i hi => ?_
  rw [getLsbD_rotr w _ s hi, getLsbD_rotl w v s (Nat.mod_lt _ (bits_pos w)), around_circle (by omega) hi]

/-- Rotating a word to the right and then to the left by one amount changes nothing. -/
theorem rotl_rotr {w : Width} {v : Word} (hv : Fits w v) (s : Word) : rotl w (rotr w v s) s = v := by
  have hn := amount_lt w s
  refine eq_of_fits_of_getLsbD (fits_rotl w _ s) hv fun i hi => ?_
  rw [getLsbD_rotl w _ s hi, getLsbD_rotr w v s (Nat.mod_lt _ (bits_pos w)), around_circle (by omega) hi]

/-- Settles O13: the right rotation bit by bit, as the inverse of the left one, and as the left one by the complement. -/
theorem rotrInvertsRotl : Obligations.RotrInvertsRotl := by
  intro w v s
  have hn := amount_lt w s
  refine ⟨fun i hi => ?_, fits_rotr w v s, fun hv => ⟨rotr_rotl hv s, rotl_rotr hv s⟩,
    rotr_eq_rotl_complement w v s⟩
  rw [getLsbD_rotr w v s (Nat.mod_lt _ (bits_pos w)), around_circle (by omega) hi]

/-! ### Rotation amounts (R125) -/

theorem rotl_congr_amount {w : Width} (v : Word) {s t : Word} (h : s.toNat % w.bits = t.toNat % w.bits) :
    rotl w v s = rotl w v t := by
  simp only [rotl, h]

theorem rotr_congr_amount {w : Width} (v : Word) {s t : Word} (h : s.toNat % w.bits = t.toNat % w.bits) :
    rotr w v s = rotr w v t := by
  simp only [rotr, h]

/-- Reducing an amount modulo the width is keeping its low `log2(w)` bits. -/
theorem toNat_and_bits_sub_one (w : Width) (s : Word) :
    (s &&& BitVec.ofNat 64 (w.bits - 1)).toNat = s.toNat % w.bits := by
  have hw := bits_le w
  rw [BitVec.toNat_and, BitVec.toNat_ofNat, Nat.mod_eq_of_lt (by omega)]
  obtain ⟨k, hk, -⟩ := bits_eq_two_pow w
  rw [hk, Nat.and_two_pow_sub_one_eq_mod]

theorem toNat_toWord_mod_bits (w : Width) (s : Word) : (toWord w s).toNat % w.bits = s.toNat % w.bits := by
  rw [toNat_toWord, Nat.mod_mod_of_dvd _ (bits_dvd_two_pow w le_rfl)]

/-- Settles O14: both masks keep the amount modulo the width, and a rotation looks at nothing else of it. -/
theorem rotationAmountIsReduced : Obligations.RotationAmountIsReduced := by
  intro w v s n
  have hlow : (s &&& BitVec.ofNat 64 (w.bits - 1)).toNat % w.bits = s.toNat % w.bits := by
    rw [toNat_and_bits_sub_one, Nat.mod_mod]
  have hmask := toNat_toWord_mod_bits w s
  exact ⟨(toNat_and_bits_sub_one w s).symm, hmask, Nat.mod_mod_of_dvd _ (bits_dvd_two_pow w (bits_le w)),
    rotl_congr_amount v hmask, rotr_congr_amount v hmask, rotl_congr_amount v hlow, rotr_congr_amount v hlow⟩

/-! ### Word arithmetic (R124) -/

theorem toNat_wordAdd (w : Width) (x y : Word) :
    (wordAdd w x y).toNat = (x.toNat + y.toNat) % 2 ^ w.bits := by
  rw [wordAdd, toNat_toWord, BitVec.toNat_add, Nat.mod_mod_of_dvd _ (Nat.pow_dvd_pow 2 (bits_le w))]

/-- A summand may be reduced early or with the sum. -/
theorem wordAdd_toWord_left (w : Width) (x y : Word) : wordAdd w (toWord w x) y = wordAdd w x y := by
  apply BitVec.eq_of_toNat_eq
  rw [toNat_wordAdd, toNat_wordAdd, toNat_toWord, Nat.mod_add_mod]

theorem wordSub_eq_wordAdd_neg (w : Width) (x y : Word) : wordSub w x y = wordAdd w x (-y) := by
  rw [wordSub, wordAdd, BitVec.sub_eq_add_neg]

theorem wordAdd_wordSub {w : Width} {x : Word} (hx : Fits w x) (y : Word) :
    wordAdd w (wordSub w x y) y = x := by
  rw [wordSub, wordAdd_toWord_left, wordAdd, BitVec.sub_add_cancel, hx]

theorem wordSub_wordAdd {w : Width} {d : Word} (hd : Fits w d) (y : Word) :
    wordSub w (wordAdd w d y) y = d := by
  rw [wordSub_eq_wordAdd_neg, show wordAdd w d y = toWord w (d + y) from rfl,
    wordAdd_toWord_left, ← wordSub_eq_wordAdd_neg, wordSub, BitVec.add_sub_cancel, hd]

/-- Settles O15: every operation masks its result, and the difference is the inverse of the sum. -/
theorem wordArithmeticWraps : Obligations.WordArithmeticWraps := by
  intro w x y z hx hy
  refine ⟨toNat_wordAdd w x y, fits_wordAdd w x y, fits_xor hx hy, fits_rotl w x y, fits_rotr w x y,
    ⟨fits_wordSub w x y, wordAdd_wordSub hx y, fun d hd hsum => ?_⟩, (wordAdd_toWord_left w (x + y) z).symm⟩
  rw [← hsum, wordSub_wordAdd hd]

/-! ### Bytes and words (R120, R121) -/

/-- The byte order, bit by bit: bit `i` of an assembled word is bit `i mod 8` of byte `i / 8`. -/
theorem getLsbD_bytesToWord (b : List Byte) {i : Nat} (hi : i < 64) :
    (bytesToWord b).getLsbD i = (b.getD (i / 8) 0).getLsbD (i % 8) := by
  induction b generalizing i with
  | nil => simp [bytesToWord]
  | cons x xs ih =>
    have hdisjoint : x.setWidth 64 &&& (bytesToWord xs <<< 8) = 0#64 := by
      apply BitVec.eq_of_getLsbD_eq
      intro j _
      by_cases hj : j < 8
      · simp [-BitVec.getLsbD_eq_getElem, hj]
      · simp [-BitVec.getLsbD_eq_getElem, BitVec.getLsbD_of_ge x j (by omega)]
    rw [bytesToWord, BitVec.add_eq_or_of_and_eq_zero _ _ hdisjoint, BitVec.getLsbD_or, BitVec.getLsbD_setWidth,
      BitVec.getLsbD_shiftLeft]
    by_cases hlow : i < 8
    · simp [-BitVec.getLsbD_eq_getElem, hi, hlow, Nat.div_eq_of_lt hlow, Nat.mod_eq_of_lt hlow]
    · have hdiv : i / 8 = (i - 8) / 8 + 1 := by omega
      have hmod : i % 8 = (i - 8) % 8 := by omega
      rw [BitVec.getLsbD_of_ge x i (by omega), ih (by omega), hdiv, hmod, List.getD_cons_succ]
      simp [-BitVec.getLsbD_eq_getElem, hi, hlow]

/-- As a number, an assembled word has the bytes as its digits to the base 256. -/
theorem toNat_bytesToWord_eq_ofDigits {b : List Byte} (hb : b.length ≤ 8) :
    (bytesToWord b).toNat = Nat.ofDigits 256 (b.map BitVec.toNat) := by
  induction b with
  | nil => rfl
  | cons x xs ih =>
    rw [List.length_cons] at hb
    have hdigits : ∀ d ∈ xs.map BitVec.toNat, d < 256 := by
      intro d hd
      obtain ⟨y, -, rfl⟩ := List.mem_map.mp hd
      exact y.isLt
    have htail : Nat.ofDigits 256 (xs.map BitVec.toNat) < 256 ^ 7 :=
      calc _ < 256 ^ (xs.map BitVec.toNat).length := Nat.ofDigits_lt_base_pow_length (by decide) hdigits
        _ ≤ 256 ^ 7 := Nat.pow_le_pow_right (by decide) (by rw [List.length_map]; omega)
    have hx := x.isLt
    rw [bytesToWord, List.map_cons, Nat.ofDigits_cons, BitVec.toNat_add, BitVec.toNat_shiftLeft, ih (by omega),
      Nat.shiftLeft_eq, BitVec.toNat_setWidth]
    omega

/-- Assembly is the sum of R120. -/
theorem toNat_bytesToWord {b : List Byte} (hb : b.length ≤ 8) :
    (bytesToWord b).toNat =
      ((List.range b.length).map fun i => (b.getD i 0).toNat * 2 ^ (8 * i)).sum := by
  rw [toNat_bytesToWord_eq_ofDigits hb, Nat.ofDigits_eq_sum_mapIdx]
  congr 1
  apply List.ext_getElem
  · simp
  · intro i h₁ h₂
    have hi : i < b.length := by simpa using h₁
    simp [hi, Nat.pow_mul]

/-- Byte `i` of a disassembled word (R121). -/
theorem getD_wordToBytes {w : Width} (v : Word) {i : Nat} (hi : i < wordBytes w) :
    (wordToBytes w v).getD i 0 = (v >>> (8 * i)).setWidth 8 := by
  simp [wordToBytes, hi]

theorem toNat_getD_wordToBytes {w : Width} (v : Word) {i : Nat} (hi : i < wordBytes w) :
    ((wordToBytes w v).getD i 0).toNat = v.toNat / 2 ^ (8 * i) % 256 := by
  rw [getD_wordToBytes v hi, BitVec.toNat_setWidth, BitVec.toNat_ushiftRight, Nat.shiftRight_eq_div_pow]

/-- As many bytes as a word has make a word. -/
theorem fits_bytesToWord {w : Width} {b : List Byte} (hb : b.length ≤ wordBytes w) : Fits w (bytesToWord b) := by
  have hw := bits_eq_wordBytes w
  apply BitVec.eq_of_getLsbD_eq
  intro i hi
  rw [getLsbD_toWord]
  by_cases hlow : i < w.bits
  · rw [decide_eq_true hlow, Bool.true_and]
  · rw [getLsbD_bytesToWord b hi, List.getD_eq_default _ _ (by omega)]
    simp

theorem wordToBytes_bytesToWord {w : Width} {b : List Byte} (hb : b.length = wordBytes w) :
    wordToBytes w (bytesToWord b) = b := by
  have hw := bits_eq_wordBytes w
  have hle := bits_le w
  refine List.ext_getElem (by rw [length_wordToBytes, hb]) fun i _ hi => ?_
  rw [← List.getD_eq_getElem _ 0, ← List.getD_eq_getElem _ 0, getD_wordToBytes _ (by omega)]
  apply BitVec.eq_of_getLsbD_eq
  intro j hj
  have hdiv : (8 * i + j) / 8 = i := by omega
  have hmod : (8 * i + j) % 8 = j := by omega
  rw [BitVec.getLsbD_setWidth, BitVec.getLsbD_ushiftRight, getLsbD_bytesToWord b (by omega), hdiv, hmod,
    decide_eq_true hj, Bool.true_and]

theorem bytesToWord_wordToBytes {w : Width} {v : Word} (hv : Fits w v) : bytesToWord (wordToBytes w v) = v := by
  have hw := bits_eq_wordBytes w
  refine eq_of_fits_of_getLsbD (fits_bytesToWord (length_wordToBytes w v).le) hv fun i hi => ?_
  have hle := bits_le w
  have hsplit : 8 * (i / 8) + i % 8 = i := by omega
  rw [getLsbD_bytesToWord _ (by omega), getD_wordToBytes v (by omega), BitVec.getLsbD_setWidth,
    BitVec.getLsbD_ushiftRight, hsplit, decide_eq_true (by omega), Bool.true_and]

/-- Settles O16: assembly as a sum, disassembly byte by byte, and that each undoes the other. -/
theorem bytesAndWordsConvert : Obligations.BytesAndWordsConvert := by
  intro w
  refine ⟨fun b hb => ⟨?_, fits_bytesToWord hb.le, wordToBytes_bytesToWord hb⟩,
    fun v => ⟨length_wordToBytes w v, fun i hi => toNat_getD_wordToBytes v hi, bytesToWord_wordToBytes⟩⟩
  have hlen : b.length ≤ 8 := by
    have hw := bits_eq_wordBytes w
    have hle := bits_le w
    omega
  rw [← hb, toNat_bytesToWord hlen]

end Sys2Proof.Proofs

/-! PROOFS. The commands ROTL, ROTR, LDP and STP (spec 40_wordcodec R126 to R129). -/

namespace Sys2Proof.Proofs

open Sys2Proof Sys2Proof.Machine

/-! ### Words that are no encoding of a command -/

/-- A word with an opcode of format Z is illegal by any of its bits 31:4 (R91). -/
theorem endsIllegal_of_nonzero_fieldZ {v : BitVec 32} {c : BitVec 4} (hopc : v.extractLsb 3 0 = c)
    (hformat : c ≠ 0x1 ∧ c ≠ 0xA ∧ c ≠ 0xB) (hfield : v.extractLsb 31 4 ≠ 0) : EndsIllegal v := by
  obtain ⟨hillegal, -⟩ := illegalWordEndsWithIllcmd v
  obtain ⟨hK, hldp, hstp⟩ := hformat
  subst hopc
  obtain ⟨e, he⟩ := hillegal.mpr (.inr (.inr (.inr ⟨hK, hldp, hstp, hfield⟩)))
  exact endsIllegal_of_decode_error he

/-- A word with an opcode of format O is illegal by any of its bits 7:4 (R93). -/
theorem endsIllegal_of_nonzero_fieldO {v : BitVec 32} (hopc : v.extractLsb 3 0 = 0xA ∨ v.extractLsb 3 0 = 0xB)
    (hfield : v.extractLsb 7 4 ≠ 0) : EndsIllegal v := by
  obtain ⟨hillegal, -⟩ := illegalWordEndsWithIllcmd v
  obtain ⟨e, he⟩ := hillegal.mpr (.inr (.inr (.inl ⟨hopc, hfield⟩)))
  exact endsIllegal_of_decode_error he

/-- A word of format O with zero bits 7:4 decodes to its command with bits 31:8 as the offset (R93). -/
theorem decode_of_zero_fieldO {v : BitVec 32} {mk : Nat → Instr} {c : BitVec 4} (hopc : v.extractLsb 3 0 = c)
    (hmk : ∀ off, opcode (mk off) = c.toNat)
    (hformat : ∀ off, FieldsHold v (mk off) = (bitField v 7 4 = 0 ∧ bitField v 31 8 = off))
    (hfield : v.extractLsb 7 4 = 0) : decode v = .ok (mk (v.extractLsb 31 8).toNat) := by
  rw [decode_eq_ok_iff, hmk, hformat, toNat_extractLsb_eq_bitField v (show 8 ≤ 31 by decide)]
  exact ⟨(extractLsb_eq_iff_bitField v (show 0 ≤ 3 by decide) c).mp hopc,
    (extractLsb_eq_iff_bitField v (show 4 ≤ 7 by decide) 0).mp hfield, rfl⟩

/-! ### The checks, and what they lead to -/

@[simp] theorem firstError_nil : firstError [] = none := rfl

@[simp] theorem firstError_cons_true (e : ErrCode) (rest : List (Bool × ErrCode)) :
    firstError ((true, e) :: rest) = some e := rfl

@[simp] theorem firstError_cons_false (e : ErrCode) (rest : List (Bool × ErrCode)) :
    firstError ((false, e) :: rest) = firstError rest := rfl

/-- A command whose check fails ends with that error. -/
theorem exec_of_check_some {i : Instr} {s : State} {e : ErrCode} (h : check i s = some e) :
    exec i s = .next (errorEnd e s) := by
  rw [exec_eq_finish, h, finish_some]

/-- A command whose checks pass runs its pseudocode and ends well. -/
theorem exec_of_check_none {i : Instr} {s : State} (h : check i s = none) :
    exec i s = .next (okEnd (bodyOf i s)) := by
  rw [exec_eq_finish, h, finish_none]

theorem checkKeyed_of_keyed {s : State} (hk : s.STATUS.KEYED = true) : checkKeyed s = none := by
  simp [checkKeyed, notKeyed, hk]

theorem checkKeyed_of_not_keyed {s : State} (hk : s.STATUS.KEYED = false) : checkKeyed s = some .E_STATE := by
  simp [checkKeyed, notKeyed, hk]

theorem checkLdp_of_not_keyed {s : State} (hk : s.STATUS.KEYED = false) (off : Nat) :
    checkLdp off s = some .E_STATE := by
  simp [checkLdp, notKeyed, hk]

theorem checkLdp_of_in_range {s : State} {off : Nat} (hk : s.STATUS.KEYED = true)
    (hlen : s.IN_LEN.toNat ≤ s.platform.IN_MAX) (hoff : off + blockSize s.WSEL ≤ s.IN_LEN.toNat) :
    checkLdp off s = none := by
  simp [checkLdp, notKeyed, inLenTooLong, hk, Nat.not_lt.mpr hlen, Nat.not_lt.mpr hoff]

theorem checkLdp_of_out_of_range {s : State} {off : Nat} (hk : s.STATUS.KEYED = true)
    (h : s.IN_LEN.toNat > s.platform.IN_MAX ∨ off + blockSize s.WSEL > s.IN_LEN.toNat) :
    checkLdp off s = some .E_RANGE := by
  have hrange : (inLenTooLong s || decide (off + blockSize s.WSEL > s.IN_LEN.toNat)) = true := by
    simpa [inLenTooLong] using h
  simp only [checkLdp, notKeyed, hk, hrange, Bool.not_true, firstError_cons_false, firstError_cons_true]

theorem checkStp_of_not_keyed {s : State} (hk : s.STATUS.KEYED = false) (off : Nat) :
    checkStp off s = some .E_STATE := by
  simp [checkStp, notKeyed, hk]

theorem checkStp_of_in_range {s : State} {off : Nat} (hk : s.STATUS.KEYED = true)
    (hoff : off + blockSize s.WSEL ≤ outMax s.platform) : checkStp off s = none := by
  simp [checkStp, notKeyed, hk, Nat.not_lt.mpr hoff]

theorem checkStp_of_out_of_range {s : State} {off : Nat} (hk : s.STATUS.KEYED = true)
    (hoff : off + blockSize s.WSEL > outMax s.platform) : checkStp off s = some .E_RANGE := by
  simp only [checkStp, notKeyed, hk, decide_eq_true hoff, Bool.not_true, firstError_cons_false, firstError_cons_true]

/-! ### ROTL and ROTR (R126, R127) -/

/-- Settles O17: the command passes its one check exactly when keyed, and its pseudocode writes A alone. -/
theorem rotlCommandRotatesA : Obligations.RotlCommandRotatesA :=
  ⟨rfl, by decide, fun _ hopc hfield => endsIllegal_of_nonzero_fieldZ hopc (by decide) hfield,
    fun _ => ⟨fun hk => exec_of_check_none (i := .rotl) (checkKeyed_of_keyed hk),
      fun hk => exec_of_check_some (i := .rotl) (checkKeyed_of_not_keyed hk)⟩⟩

/-- Settles O18: the command passes its one check exactly when keyed, and its pseudocode writes A alone. -/
theorem rotrCommandRotatesA : Obligations.RotrCommandRotatesA :=
  ⟨rfl, by decide, fun _ hopc hfield => endsIllegal_of_nonzero_fieldZ hopc (by decide) hfield,
    fun _ => ⟨fun hk => exec_of_check_none (i := .rotr) (checkKeyed_of_keyed hk),
      fun hk => exec_of_check_some (i := .rotr) (checkKeyed_of_not_keyed hk)⟩⟩

/-! ### LDP (R128) -/

/-- A run of bytes is read in two parts. -/
theorem memRead_add (s : State) (b : Buf) (off m n : Nat) :
    memRead s b off (m + n) = memRead s b off m ++ memRead s b (off + m) n := by
  simp [memRead, List.range_add, Nat.add_assoc]

theorem blockSize_eq_add (w : Width) : blockSize w = wordBytes w + wordBytes w := Nat.two_mul _

/-- A loaded pair is the word at the offset and the word behind it (20_memory R63, R73). -/
theorem loadPair_eq (s : State) (b : Buf) (off : Nat) :
    loadPair s b off =
      (bytesToWord (memRead s b off (wordBytes s.WSEL)),
       bytesToWord (memRead s b (off + wordBytes s.WSEL) (wordBytes s.WSEL))) := by
  have hlen := length_memRead s b off (wordBytes s.WSEL)
  rw [loadPair, pairOfBytes, blockSize_eq_add, memRead_add, List.take_left' hlen, List.drop_left' hlen]

/-- LDP's pseudocode writes the two loaded words to A and B, and nothing else. -/
theorem ldpBody_eq (off : Nat) (s : State) :
    ldpBody off s = { s with
      A := bytesToWord (memRead s .input off (wordBytes s.WSEL))
      B := bytesToWord (memRead s .input (off + wordBytes s.WSEL) (wordBytes s.WSEL)) } := by
  simp only [ldpBody, loadPair_eq]

/-- Settles O19: decoding by the fields of format O, the three ends, and the two words at the offset. -/
theorem ldpLoadsPair : Obligations.LdpLoadsPair := by
  refine ⟨fun v hopc => ⟨decode_of_zero_fieldO hopc (fun _ => rfl) fun _ => rfl,
    endsIllegal_of_nonzero_fieldO (.inl hopc)⟩, fun s off => ⟨fun hk hlen hoff => ?_, fun hk => ?_, fun hk h => ?_⟩⟩
  · rw [exec_of_check_none (i := .ldp off) (checkLdp_of_in_range hk hlen hoff), bodyOf, ldpBody_eq]
    rfl
  · exact exec_of_check_some (i := .ldp off) (checkLdp_of_not_keyed hk off)
  · exact exec_of_check_some (i := .ldp off) (checkLdp_of_out_of_range hk h)

/-! ### STP (R129) -/

/-- After a pair is stored, the bytes of its first word stand at the offset and those of its second behind them. -/
theorem byteAt_storePair_words (off : Nat) (v0 v1 : Word) (s : State) {i : Nat} (hi : i < wordBytes s.WSEL) :
    byteAt (storePair off v0 v1 s) .output (off + i) = (wordToBytes s.WSEL v0).getD i 0 ∧
    byteAt (storePair off v0 v1 s) .output (off + wordBytes s.WSEL + i) = (wordToBytes s.WSEL v1).getD i 0 := by
  have hlen (v : Word) := length_wordToBytes s.WSEL v
  have hblock := blockSize_eq_add s.WSEL
  have hbehind : off + wordBytes s.WSEL + i - off = wordBytes s.WSEL + i := by omega
  constructor
  · rw [byteAt_storePair, if_pos ⟨rfl, by omega, by omega⟩, Nat.add_sub_cancel_left, bytesOfPair,
      List.getD_append _ _ _ _ (by rwa [hlen])]
  · rw [byteAt_storePair, if_pos ⟨rfl, by omega, by omega⟩, hbehind, bytesOfPair,
      List.getD_append_right _ _ _ _ (by rw [hlen]; omega), hlen, Nat.add_sub_cancel_left]

/-- Storing a pair leaves the bytes of OUT before and behind the block alone. -/
theorem byteAt_storePair_outside {off a : Nat} (v0 v1 : Word) {s : State}
    (ha : a < off ∨ off + blockSize s.WSEL ≤ a) : byteAt (storePair off v0 v1 s) .output a = byteAt s .output a := by
  rw [byteAt_storePair, if_neg (by omega)]

/-- Settles O20: decoding by the fields of format O, the three ends, and OUT byte by byte. -/
theorem stpStoresPair : Obligations.StpStoresPair := by
  refine ⟨fun v hopc => ⟨decode_of_zero_fieldO hopc (fun _ => rfl) fun _ => rfl,
    endsIllegal_of_nonzero_fieldO (.inr hopc)⟩, fun s off => ⟨fun hk hoff => ?_, fun hk => ?_, fun hk hoff => ?_⟩⟩
  · refine ⟨_, exec_of_check_none (i := .stp off) (checkStp_of_in_range hk hoff), rfl, fun i hi => ?_,
      fun a ha => byteAt_storePair_outside (wordA s) (wordB s) ha⟩
    obtain ⟨hA, hB⟩ := byteAt_storePair_words off (wordA s) (wordB s) s hi
    exact ⟨(congrArg BitVec.toNat hA).trans (toNat_getD_wordToBytes _ hi),
      (congrArg BitVec.toNat hB).trans (toNat_getD_wordToBytes _ hi)⟩
  · exact exec_of_check_some (i := .stp off) (checkStp_of_not_keyed hk off)
  · exact exec_of_check_some (i := .stp off) (checkStp_of_out_of_range hk hoff)

end Sys2Proof.Proofs

/-! PROOFS. The tables of the key schedule: splitting, seeding and mixing (spec 41_keyschedule R151 to R153). -/

namespace Sys2Proof.Proofs

open Sys2Proof Sys2Proof.Machine

/-! ### The lengths of the tables (00_scope R14) -/

theorem ceilDiv_pos {a b : Nat} (ha : 1 ≤ a) (hb : 0 < b) : 1 ≤ ceilDiv a b :=
  (Nat.one_le_div_iff hb).mpr (by omega)

theorem keyWordCount_pos {s : State} (h : 1 ≤ s.KLEN.toNat) : 1 ≤ keyWordCount s :=
  ceilDiv_pos h (by cases s.WSEL <;> decide)

theorem keyWordCount_le (s : State) : keyWordCount s ≤ 128 := by
  have hk := s.KLEN.isLt
  unfold keyWordCount ceilDiv
  cases s.WSEL <;> simp only [wordBytes_w16, wordBytes_w32, wordBytes_w64] <;> omega

theorem two_le_subkeyCount (s : State) : 2 ≤ subkeyCount s := by
  unfold subkeyCount
  omega

theorem subkeyCount_le (s : State) : subkeyCount s ≤ 512 := by
  have hr := s.R.isLt
  unfold subkeyCount
  omega

/-- A table filled from its start holds the run, as far as the table goes, and behind it what it held before. -/
theorem tableGet_tableFill_zero {α : Type} {n : Nat} (t : Vector α n) {xs : List α} (hlen : xs.length ≤ n) (j : Nat)
    (d : α) : tableGet (tableFill t 0 xs) j d = if j < xs.length then xs.getD j d else tableGet t j d := by
  rw [tableGet_tableFill]
  by_cases hj : j < xs.length
  · rw [if_pos hj, if_pos (by omega), Nat.sub_zero]
  · rw [if_neg hj, if_neg (by omega)]

/-! ### Splitting (R151) -/

/-- Key word `j` as the sum of its bytes, the bytes behind the key counting as 0. -/
theorem toNat_keyWord (s : State) (j : Nat) :
    (keyWord s j).toNat =
      ((List.range (wordBytes s.WSEL)).map fun q =>
        (if j * wordBytes s.WSEL + q < s.KLEN.toNat then
          (tableGet s.KEY (j * wordBytes s.WSEL + q) 0).toNat else 0) * 2 ^ (8 * q)).sum := by
  have hwidth : wordBytes s.WSEL ≤ 8 := by cases s.WSEL <;> decide
  rw [keyWord, toNat_bytesToWord (by simpa using hwidth), List.length_map, List.length_range]
  congr 1
  refine List.map_congr_left fun q hq => ?_
  simp [List.mem_range.mp hq, apply_ite BitVec.toNat]

/-- An entry of L after the split: a key word below `c`, else what it was. -/
theorem tableGet_splitKey (s : State) (j : Nat) :
    tableGet (splitKey s).L j 0 = if j < keyWordCount s then keyWord s j else tableGet s.L j 0 := by
  rw [splitKey, tableGet_tableFill_zero _ (by simpa using keyWordCount_le s), List.length_map, List.length_range]
  split
  case isTrue hj => simp [hj]
  case isFalse => rfl

/-- Settles O23: the entries of L one by one, and a key word as the sum of its bytes. -/
theorem splitKeyIsLittleEndian : Obligations.SplitKeyIsLittleEndian := by
  intro s
  refine ⟨rfl, keyWordCount_pos, fun j hj => ?_, fun j hj => ?_⟩
  · rw [tableGet_splitKey, if_pos hj, toNat_keyWord]
  · rw [tableGet_splitKey, if_neg (by omega)]

/-! ### Seeding (R152) -/

theorem length_seedWords (w : Width) (q : Word) (t : Nat) (x : Word) : (seedWords w q t x).length = t := by
  induction t generalizing x with
  | zero => rfl
  | succ t ih => rw [seedWords, List.length_cons, ih]

/-- Entry `i` of the seed words is the first plus `i` times `Q_w`, modulo the width. -/
theorem toNat_getD_seedWords (w : Width) (q : Word) {t i : Nat} {x : Word} (hx : x.toNat < 2 ^ w.bits) (hi : i < t) :
    ((seedWords w q t x).getD i 0).toNat = (x.toNat + i * q.toNat) % 2 ^ w.bits := by
  induction t generalizing x i with
  | zero => omega
  | succ t ih =>
    cases i with
    | zero => simp [seedWords, Nat.mod_eq_of_lt hx]
    | succ i =>
      have hnext : (wordAdd w x q).toNat < 2 ^ w.bits := by
        rw [toNat_wordAdd]
        exact Nat.mod_lt _ (Nat.two_pow_pos _)
      rw [seedWords, List.getD_cons_succ, ih hnext (by omega), toNat_wordAdd, Nat.mod_add_mod, Nat.succ_mul,
        Nat.add_assoc, Nat.add_comm q.toNat]

/-- The constant `P_w` is below `2^w` (00_scope R9). -/
theorem toNat_seedP_lt (p : Platform) (w : Width) : (seedP p w).toNat < 2 ^ w.bits := by
  cases w with
  | w16 =>
    rw [seedP, BitVec.toNat_setWidth]
    exact (Nat.mod_le _ _).trans_lt p.P16.isLt
  | w32 =>
    rw [seedP, BitVec.toNat_setWidth]
    exact (Nat.mod_le _ _).trans_lt p.P32.isLt
  | w64 => exact p.P64.isLt

/-- A subkey after seeding: a seed word below `t`, else what it was. -/
theorem subkey_seedTable (s : State) (i : Nat) :
    subkey (seedTable s) i =
      if i < subkeyCount s then
        (seedWords s.WSEL (seedQ s.platform s.WSEL) (subkeyCount s) (seedP s.platform s.WSEL)).getD i 0
      else subkey s i := by
  rw [subkey, seedTable, tableGet_tableFill_zero _ (by rw [length_seedWords]; exact subkeyCount_le s),
    length_seedWords, subkey]

/-- Settles O24: the entries of S one by one, and a seed word in closed form. -/
theorem seedTableAddsQ : Obligations.SeedTableAddsQ := by
  intro s
  refine ⟨rfl, fun i hi => ?_, fun i hi => ?_⟩
  · rw [subkey_seedTable, if_pos hi, toNat_getD_seedWords _ _ (toNat_seedP_lt _ _) hi]
  · rw [subkey_seedTable, if_neg (by omega)]

/-! ### Mixing (R153) -/

/-- What a table holds whose entries 0 to `m - 1` are written one after another, over and over: behind them nothing
has changed, and an entry whose turn has come holds a written value. -/
theorem tableGet_of_roundRobin {α : Type} {size m : Nat} {T : Nat → Vector α size} {x : Nat → α} (hm : 0 < m)
    (hsize : m ≤ size) (hstep : ∀ n, T (n + 1) = (T n).setIfInBounds (n % m) (x n)) (n i : Nat) (d : α) :
    (m ≤ i → tableGet (T n) i d = tableGet (T 0) i d) ∧ (i < m → i < n → ∃ k, tableGet (T n) i d = x k) := by
  induction n with
  | zero => exact ⟨fun _ => rfl, fun _ h => absurd h (Nat.not_lt_zero i)⟩
  | succ n ih =>
    obtain ⟨hbehind, hwritten⟩ := ih
    have hlt := Nat.mod_lt n hm
    rw [hstep, tableGet_set]
    by_cases hi : n % m = i
    · exact ⟨by omega, fun him _ => ⟨n, if_pos ⟨hi, by omega⟩⟩⟩
    · rw [if_neg (fun h => hi h.1)]
      refine ⟨hbehind, fun him hin => hwritten him ?_⟩
      have hne : i ≠ n := fun h => hi (h ▸ Nat.mod_eq_of_lt him)
      omega

/-- The number of iterations, `3 * max(t, c)`, is at least `t` and at least `c`, and lies from 6 to 1536. -/
theorem mixCount_bounds (s : State) :
    subkeyCount s ≤ mixCount s ∧ keyWordCount s ≤ mixCount s ∧ 6 ≤ mixCount s ∧ mixCount s ≤ 1536 := by
  have ht := two_le_subkeyCount s
  have ht' := subkeyCount_le s
  have hc := keyWordCount_le s
  unfold mixCount
  omega

/-- The state after `n` iterations of the mixing loop. -/
def mixed (s : State) (n : Nat) : State := mixStep^[n] (startMix s)

theorem mixTables_eq_mixed (s : State) : mixTables s = mixed s (mixCount s) := rfl

theorem mixed_succ (s : State) (n : Nat) : mixed s (n + 1) = mixStep (mixed s n) :=
  Function.iterate_succ_apply' mixStep n (startMix s)

theorem mixed_counts (s : State) (n : Nat) :
    (mixed s n).WSEL = s.WSEL ∧ subkeyCount (mixed s n) = subkeyCount s ∧
      keyWordCount (mixed s n) = keyWordCount s :=
  mixStep_iterate_counts (startMix s) n

/-- Every iteration counts KN down by one. -/
theorem mixed_KN (s : State) (n : Nat) : (mixed s n).KN = BitVec.ofNat 11 (mixCount s) - BitVec.ofNat 11 n := by
  induction n with
  | zero => exact (BitVec.sub_zero _).symm
  | succ n ih =>
    rw [mixed_succ, BitVec.ofNat_add, ← BitVec.sub_sub, ← ih]
    rfl

theorem mixTables_KN (s : State) : (mixTables s).KN = 0 := by
  rw [mixTables_eq_mixed, mixed_KN]
  exact BitVec.sub_self _

/-- An index that goes up by one modulo `m` at each iteration is the number of iterations modulo `m`. -/
theorem ofNat_wrapping_succ {k m n : Nat} (hm : m ≤ 2 ^ k) (hpos : 0 < m) :
    BitVec.ofNat k (((BitVec.ofNat k (n % m)).toNat + 1) % m) = BitVec.ofNat k ((n + 1) % m) := by
  have hlt := Nat.mod_lt n hpos
  rw [BitVec.toNat_ofNat, Nat.mod_eq_of_lt (a := n % m) (by omega), Nat.mod_add_mod]

/-- The subkey index is the number of iterations modulo `t`. -/
theorem mixed_KI (s : State) (n : Nat) : (mixed s n).KI = BitVec.ofNat 9 (n % subkeyCount s) := by
  have ht := two_le_subkeyCount s
  induction n with
  | zero => rw [Nat.zero_mod]; rfl
  | succ n ih =>
    obtain ⟨-, hcount, -⟩ := mixed_counts s n
    have hKI : (mixStep (mixed s n)).KI =
        BitVec.ofNat 9 (((mixed s n).KI.toNat + 1) % subkeyCount (mixed s n)) := rfl
    rw [mixed_succ, hKI, hcount, ih, ofNat_wrapping_succ (subkeyCount_le s) (by omega)]

/-- The key word index is the number of iterations modulo `c`. -/
theorem mixed_KJ {s : State} (hk : 1 ≤ s.KLEN.toNat) (n : Nat) :
    (mixed s n).KJ = BitVec.ofNat 7 (n % keyWordCount s) := by
  induction n with
  | zero => rw [Nat.zero_mod]; rfl
  | succ n ih =>
    obtain ⟨-, -, hcount⟩ := mixed_counts s n
    have hKJ : (mixStep (mixed s n)).KJ =
        BitVec.ofNat 7 (((mixed s n).KJ.toNat + 1) % keyWordCount (mixed s n)) := rfl
    rw [mixed_succ, hKJ, hcount, ih, ofNat_wrapping_succ (keyWordCount_le s) (keyWordCount_pos hk)]

theorem toNat_mixed_KI (s : State) (n : Nat) : (mixed s n).KI.toNat = n % subkeyCount s := by
  have hlt := Nat.mod_lt n (show 0 < subkeyCount s from Nat.lt_of_lt_of_le (by decide) (two_le_subkeyCount s))
  have ht := subkeyCount_le s
  rw [mixed_KI, BitVec.toNat_ofNat, Nat.mod_eq_of_lt (by omega)]

theorem toNat_mixed_KJ {s : State} (hk : 1 ≤ s.KLEN.toNat) (n : Nat) :
    (mixed s n).KJ.toNat = n % keyWordCount s := by
  have hlt := Nat.mod_lt n (keyWordCount_pos hk)
  have hc := keyWordCount_le s
  rw [mixed_KJ hk, BitVec.toNat_ofNat, Nat.mod_eq_of_lt (by omega)]

/-- An iteration writes the new `a` into S, at the subkey index. -/
theorem mixed_succ_S (s : State) (n : Nat) :
    (mixed s (n + 1)).S = (mixed s n).S.setIfInBounds (n % subkeyCount s) (mixed s (n + 1)).KA := by
  rw [← toNat_mixed_KI, mixed_succ]
  rfl

/-- An iteration writes the new `b` into L, at the key word index. -/
theorem mixed_succ_L {s : State} (hk : 1 ≤ s.KLEN.toNat) (n : Nat) :
    (mixed s (n + 1)).L = (mixed s n).L.setIfInBounds (n % keyWordCount s) (mixed s (n + 1)).KB := by
  rw [← toNat_mixed_KJ hk, mixed_succ]
  rfl

/-- The accumulators of an iteration are words. -/
theorem fits_mixed_succ (s : State) (n : Nat) :
    Fits s.WSEL (mixed s (n + 1)).KA ∧ Fits s.WSEL (mixed s (n + 1)).KB := by
  obtain ⟨hw, -, -⟩ := mixed_counts s n
  rw [mixed_succ, ← hw]
  exact ⟨fits_rotl _ _ _, fits_rotl _ _ _⟩

/-- Mixing replaces each of the first `t` subkeys by a word and leaves the others alone. -/
theorem subkey_mixTables (s : State) (i : Nat) :
    (i < subkeyCount s → Fits s.WSEL (subkey (mixTables s) i)) ∧
    (subkeyCount s ≤ i → subkey (mixTables s) i = subkey s i) := by
  obtain ⟨hcount, -, -, -⟩ := mixCount_bounds s
  have ht := two_le_subkeyCount s
  obtain ⟨hbehind, hwritten⟩ := tableGet_of_roundRobin (T := fun n => (mixed s n).S)
    (x := fun n => (mixed s (n + 1)).KA) (by omega) (subkeyCount_le s) (mixed_succ_S s) (mixCount s) i 0
  refine ⟨fun hi => ?_, hbehind⟩
  obtain ⟨k, hlast⟩ := hwritten hi (by omega)
  exact (congrArg (Fits s.WSEL) hlast).mpr (fits_mixed_succ s k).1

/-- Mixing replaces each of the first `c` key words by a word and leaves the others alone. -/
theorem tableGet_mixTables_L {s : State} (hk : 1 ≤ s.KLEN.toNat) (j : Nat) :
    (j < keyWordCount s → Fits s.WSEL (tableGet (mixTables s).L j 0)) ∧
    (keyWordCount s ≤ j → tableGet (mixTables s).L j 0 = tableGet s.L j 0) := by
  obtain ⟨-, hcount, -, -⟩ := mixCount_bounds s
  obtain ⟨hbehind, hwritten⟩ := tableGet_of_roundRobin (T := fun n => (mixed s n).L)
    (x := fun n => (mixed s (n + 1)).KB) (keyWordCount_pos hk) (keyWordCount_le s) (mixed_succ_L hk) (mixCount s) j 0
  refine ⟨fun hj => ?_, hbehind⟩
  obtain ⟨k, hlast⟩ := hwritten hj (by omega)
  exact (congrArg (Fits s.WSEL) hlast).mpr (fits_mixed_succ s k).2

/-- Settles O25: a sequence that follows the rule is the sequence of the loop's states, by induction on the number of
iterations; the tables are written round-robin. -/
theorem mixingRunsIterations : Obligations.MixingRunsIterations := by
  intro s f hk hstart hloop
  obtain ⟨-, -, hleast, hmost⟩ := mixCount_bounds s
  have hf (n : Nat) (hn : n ≤ mixCount s) : f n = mixed s n := by
    induction n with
    | zero => exact hstart
    | succ n ih =>
      obtain ⟨a, b, ha, hb, hnext⟩ := hloop n hn
      obtain ⟨hw, ht, hc⟩ := mixed_counts s n
      rw [ih (by omega), ← hw] at ha hb
      rw [hnext, ih (by omega), ← ht, ← hc, hb, ha, mixed_succ]
      rfl
  exact ⟨(hf (mixCount s) le_rfl).symm, hleast, hmost, mixTables_KN s, mixed_KI s (mixCount s),
    mixed_KJ hk (mixCount s), fun i => (subkey_mixTables s i).1, fun i => (subkey_mixTables s i).2,
    fun j => (tableGet_mixTables_L hk j).1, fun j => (tableGet_mixTables_L hk j).2⟩

end Sys2Proof.Proofs

/-! PROOFS. The command INIT: what it builds, and what that depends on (spec 41_keyschedule R150, R155, R157). -/

namespace Sys2Proof.Proofs

open Sys2Proof Sys2Proof.Machine

/-! ### The words of format K (R92) -/

/-- A word with opcode 1 and zero bits 31:24 and 7:6 decodes to INIT of its three fields. -/
theorem decode_of_zero_fieldsK {v : BitVec 32} (hopc : v.extractLsb 3 0 = 0x1) (h24 : v.extractLsb 31 24 = 0)
    (h6 : v.extractLsb 7 6 = 0) :
    decode v = .ok (.init (v.extractLsb 5 4).toNat (v.extractLsb 15 8).toNat (v.extractLsb 23 16).toNat) := by
  have hslice {hi lo : Nat} (h : lo ≤ hi) := toNat_extractLsb_eq_bitField v h
  rw [decode_eq_ok_iff, hslice (by decide), hslice (by decide), hslice (by decide)]
  exact ⟨(extractLsb_eq_iff_bitField v (show 0 ≤ 3 by decide) 1).mp hopc,
    ⟨(extractLsb_eq_iff_bitField v (show 24 ≤ 31 by decide) 0).mp h24,
      (extractLsb_eq_iff_bitField v (show 6 ≤ 7 by decide) 0).mp h6⟩, rfl, rfl, rfl⟩

/-- A word with opcode 1 is illegal by any of its bits 31:24 and 7:6. -/
theorem endsIllegal_of_nonzero_fieldsK {v : BitVec 32} (hopc : v.extractLsb 3 0 = 0x1)
    (hfield : v.extractLsb 31 24 ≠ 0 ∨ v.extractLsb 7 6 ≠ 0) : EndsIllegal v := by
  obtain ⟨hillegal, -⟩ := illegalWordEndsWithIllcmd v
  obtain ⟨e, he⟩ := hillegal.mpr (.inr (.inl ⟨hopc, hfield⟩))
  exact endsIllegal_of_decode_error he

/-! ### The checks of INIT (R155) -/

theorem checkInit_of_keyed {s : State} (hkeyed : s.STATUS.KEYED = true) (wsel klen : Nat) :
    checkInit wsel klen s = some .E_STATE := by
  simp [checkInit, hkeyed]

theorem checkInit_of_bad_config {s : State} {wsel klen : Nat} (hkeyed : s.STATUS.KEYED = false)
    (h : wsel = 3 ∨ klen = 0) : checkInit wsel klen s = some .E_CONFIG := by
  have hbad : ((widthOfSel wsel).isNone || decide (klen = 0)) = true := by
    rcases h with rfl | rfl <;> simp [widthOfSel]
  simp [checkInit, hkeyed, hbad]

theorem checkInit_of_good_config {s : State} {wsel klen : Nat} {w : Width} (hkeyed : s.STATUS.KEYED = false)
    (hw : widthOfSel wsel = some w) (hklen : 1 ≤ klen) :
    checkInit wsel klen s = if s.PWD_LEN.toNat > s.platform.PWD_MAX then some .E_RANGE else none := by
  have hgood : ((widthOfSel wsel).isNone || decide (klen = 0)) = false := by
    simp [hw, Nat.one_le_iff_ne_zero.mp hklen]
  simp [checkInit, hkeyed, hgood, firstError]

/-- Only an unkeyed engine with a valid configuration passes the checks. -/
theorem of_checkInit_eq_none {s : State} {wsel klen : Nat} (h : checkInit wsel klen s = none) :
    s.STATUS.KEYED = false ∧ (∃ w, widthOfSel wsel = some w) ∧ 1 ≤ klen := by
  cases hkeyed : s.STATUS.KEYED with
  | true => simp [checkInit_of_keyed hkeyed] at h
  | false =>
    by_cases hklen : klen = 0
    · simp [checkInit_of_bad_config hkeyed (.inr hklen)] at h
    · cases hw : widthOfSel wsel with
      | none => simp [checkInit, hkeyed, hw] at h
      | some w => exact ⟨rfl, ⟨w, rfl⟩, by omega⟩

/-! ### The key (R150) -/

theorem stretch_succ (p : Platform) (pwd : List Byte) (m : Nat) :
    stretch p pwd (m + 1) = rehash p (stretch p pwd m) :=
  Function.iterate_succ_apply' (rehash p) m _

/-- The latest chunk after `m` re-hashes is the password hashed `m + 1` times. -/
theorem stretch_fst (p : Platform) (pwd : List Byte) (m : Nat) :
    (stretch p pwd m).1 = (hash p)^[m + 1] pwd := by
  induction m with
  | zero => rfl
  | succ m ih => rw [stretch_succ, Function.iterate_succ_apply', ← ih]; rfl

/-- The material after `m` re-hashes is `m + 1` answers long. -/
theorem length_stretch_snd (p : Platform) (pwd : List Byte) (m : Nat) :
    (stretch p pwd m).2.length = (m + 1) * p.HLEN := by
  induction m with
  | zero => simp [stretch]
  | succ m ih => rw [stretch_succ, rehash, List.length_append, length_hash, ih]; ring

/-- `ceil(a/b)` pieces of length `b` cover `a`. -/
theorem le_ceilDiv_mul (a : Nat) {b : Nat} (hb : 1 ≤ b) : a ≤ ceilDiv a b * b := by
  have h := Nat.lt_div_mul_add (a := a + b - 1) hb
  unfold ceilDiv
  omega

/-- A derived key has `klen` bytes. -/
theorem length_kdf {p : Platform} (pwd : List Byte) {klen : Nat} (hp : 1 ≤ p.HLEN) (hklen : 1 ≤ klen) :
    (kdf p pwd klen).length = klen := by
  have hpos : 1 ≤ hashCount p klen := ceilDiv_pos hklen hp
  have hcover : klen ≤ hashCount p klen * p.HLEN := le_ceilDiv_mul klen hp
  rw [kdf, List.length_drop, length_stretch_snd, Nat.sub_add_cancel hpos]
  omega

/-! ### What INIT builds -/

/-- Splitting, seeding and mixing, one after another. -/
def buildTables (s : State) : State := mixTables (seedTable (splitKey s))

/-- What the hash requests leave behind beside the key: the last answer and their number. -/
def withHashTrace (h : List Byte) (n : BitVec 8) (s : State) : State := { s with HBUF := h, HC := n }

/-- The key material is no input of the mixing loop. -/
theorem buildTables_withHashTrace (h : List Byte) (n : BitVec 8) (s : State) :
    buildTables (withHashTrace h n s) = withHashTrace h n (buildTables s) := by
  have hstep : Function.Semiconj (withHashTrace h n) mixStep mixStep := fun _ => rfl
  exact (hstep.iterate_right _ (startMix (seedTable (splitKey s)))).symm

/-- The mixing loop writes the two tables, the accumulators and its counters, and nothing else. -/
theorem mixed_frame (s : State) (n : Nat) :
    ∃ S L KA KB KI KJ KN,
      mixed s n = { s with S := S, L := L, KA := KA, KB := KB, KI := KI, KJ := KJ, KN := KN } := by
  induction n with
  | zero => exact ⟨_, _, _, _, _, _, _, rfl⟩
  | succ n ih =>
    obtain ⟨S, L, KA, KB, KI, KJ, KN, h⟩ := ih
    rw [mixed_succ, h]
    exact ⟨_, _, _, _, _, _, _, rfl⟩

/-- Building writes the two tables, the accumulators and the loop's counters, of which KN ends at 0. -/
theorem buildTables_frame (s : State) :
    ∃ S L KA KB KI KJ,
      buildTables s = { s with S := S, L := L, KA := KA, KB := KB, KI := KI, KJ := KJ, KN := 0 } := by
  obtain ⟨S, L, KA, KB, KI, KJ, KN, h⟩ := mixed_frame (seedTable (splitKey s)) (mixCount (seedTable (splitKey s)))
  have hKN : KN = 0 := by
    rw [← mixTables_KN (seedTable (splitKey s)), mixTables_eq_mixed, h]
  exact ⟨S, L, KA, KB, KI, KJ, h.trans (by rw [hKN]; rfl)⟩

theorem buildTables_R (s : State) : (buildTables s).R = s.R := by
  obtain ⟨S, L, KA, KB, KI, KJ, h⟩ := buildTables_frame s
  rw [h]

theorem buildTables_KEY (s : State) : (buildTables s).KEY = s.KEY := by
  obtain ⟨S, L, KA, KB, KI, KJ, h⟩ := buildTables_frame s
  rw [h]

/-- How INIT ends: the hash requests have left their trace, KEYED is set, and the command ends well. -/
def initEnd (h : List Byte) (n : BitVec 8) (s : State) : State := okEnd (setKeyed (withHashTrace h n s))

theorem initEnd_KEY (h : List Byte) (n : BitVec 8) (s : State) : (initEnd h n s).KEY = s.KEY := rfl

theorem initEnd_tables (h : List Byte) (n : BitVec 8) (s : State) :
    (initEnd h n s).S = s.S ∧ (initEnd h n s).L = s.L ∧ (initEnd h n s).KA = s.KA ∧ (initEnd h n s).KB = s.KB :=
  ⟨rfl, rfl, rfl, rfl⟩

theorem initEnd_R (h : List Byte) (n : BitVec 8) (s : State) : (initEnd h n s).R = s.R := rfl

/-- The state in which the tables are built: the parameters are latched and the key of the password stands in KEY. -/
def keyDerived (w : Width) (rounds klen : Nat) (s : State) : State :=
  { s with
    WSEL := w
    R := BitVec.ofNat 8 rounds
    KLEN := BitVec.ofNat 8 klen
    KEY := tableFill s.KEY 0 (kdf s.platform (password s) klen) }

theorem deriveKey_latchConfig (w : Width) (rounds : Nat) {klen : Nat} {s : State} (hp : 1 ≤ s.platform.HLEN)
    (hklen : 1 ≤ klen) (hbyte : klen < 2 ^ 8) :
    deriveKey (latchConfig w rounds klen s) =
      withHashTrace ((hash s.platform)^[ceilDiv klen s.platform.HLEN] (password s))
        (BitVec.ofNat 8 (ceilDiv klen s.platform.HLEN)) (keyDerived w rounds klen s) := by
  have hlatched : (BitVec.ofNat 8 klen).toNat = klen := by rw [BitVec.toNat_ofNat, Nat.mod_eq_of_lt hbyte]
  have hcount : ceilDiv klen s.platform.HLEN - 1 + 1 = ceilDiv klen s.platform.HLEN :=
    Nat.sub_add_cancel (ceilDiv_pos hklen hp)
  simp only [deriveKey, latchConfig, hlatched, hashCount, stretch_fst, hcount]
  rfl

/-- An INIT whose checks pass derives the key, builds the tables and sets KEYED. -/
theorem exec_init_of_check_none {s : State} {wsel rounds klen : Nat} {w : Width} (hp : 1 ≤ s.platform.HLEN)
    (hbyte : klen < 2 ^ 8) (hw : widthOfSel wsel = some w) (hcheck : checkInit wsel klen s = none) :
    exec (.init wsel rounds klen) s =
      .next (initEnd ((hash s.platform)^[ceilDiv klen s.platform.HLEN] (password s))
        (BitVec.ofNat 8 (ceilDiv klen s.platform.HLEN)) (buildTables (keyDerived w rounds klen s))) := by
  obtain ⟨-, -, hklen⟩ := of_checkInit_eq_none hcheck
  rw [exec_of_check_none (i := .init wsel rounds klen) hcheck, initEnd, ← buildTables_withHashTrace,
    ← deriveKey_latchConfig w rounds hp hklen hbyte]
  simp only [bodyOf, initBody, hw, buildTables]

/-- An entry of KEY after the derivation: a byte of the derived key below `klen`, else what it was. -/
theorem tableGet_keyDerived {w : Width} {rounds klen : Nat} {s : State} (hp : 1 ≤ s.platform.HLEN)
    (hklen : 1 ≤ klen) (hbyte : klen < 2 ^ 8) (i : Nat) :
    tableGet (keyDerived w rounds klen s).KEY i 0 =
      if i < klen then (kdf s.platform (password s) klen).getD i 0 else tableGet s.KEY i 0 := by
  have hlen := length_kdf (password s) hp hklen
  rw [keyDerived, tableGet_tableFill_zero _ (by omega), hlen]

theorem wellFormed_init {wsel rounds klen : Nat} (h : WellFormed (.init wsel rounds klen) = true) :
    wsel < 2 ^ 2 ∧ rounds < 2 ^ 8 ∧ klen < 2 ^ 8 := by
  simpa [WellFormed, and_assoc] using h

/-- Settles O26: decoding by the fields of format K, the engine that is built, and the three error ends. -/
theorem initConstructsEngine : Obligations.InitConstructsEngine := by
  refine ⟨fun v hopc => ⟨decode_of_zero_fieldsK hopc, endsIllegal_of_nonzero_fieldsK hopc⟩,
    fun s wsel rounds klen hwf => ⟨fun w hplatform hkeyed hbits hklen hpwd => ?_, fun hkeyed => ?_,
      fun hkeyed hconfig => ?_, fun hkeyed hwsel hklen hpwd => ?_⟩⟩
  · obtain ⟨hwsel, -, hbyte⟩ := wellFormed_init hwf
    obtain ⟨-, -, -, -, hp⟩ := hplatform
    have hw : widthOfSel wsel = some w := by
      refine (widthOfSel_eq_some_iff wsel w).mpr ⟨?_, hbits⟩
      have hle := bits_le w
      by_contra hlarge
      rw [hbits, show wsel = 3 by omega] at hle
      omega
    have hcheck : checkInit wsel klen s = none := by
      rw [checkInit_of_good_config hkeyed hw hklen, if_neg (by omega)]
    have hkey (i : Nat) := tableGet_keyDerived (w := w) (rounds := rounds) hp hklen hbyte i
    refine ⟨_, exec_init_of_check_none hp hbyte hw hcheck, ?_⟩
    rw [initEnd_KEY, buildTables_KEY]
    refine ⟨?_, fun i hi => (hkey i).trans (if_pos hi), fun i hi => (hkey i).trans (if_neg (by omega)),
      initEnd_tables _ _ (buildTables (keyDerived w rounds klen s))⟩
    obtain ⟨S, L, KA, KB, KI, KJ, hbuilt⟩ := buildTables_frame (keyDerived w rounds klen s)
    rw [hbuilt]
    rfl
  · exact exec_of_check_some (i := .init wsel rounds klen) (checkInit_of_keyed hkeyed wsel klen)
  · exact exec_of_check_some (i := .init wsel rounds klen) (checkInit_of_bad_config hkeyed hconfig)
  · have hw : ∃ w, widthOfSel wsel = some w := by
      match wsel with
      | 0 | 1 | 2 => exact ⟨_, rfl⟩
    obtain ⟨w, hw⟩ := hw
    exact exec_of_check_some (i := .init wsel rounds klen)
      ((checkInit_of_good_config hkeyed hw hklen).trans (if_pos hpwd))

/-! ### What the engine depends on (R157) -/

/-- Two states agree on all that the mixing loop reads: the latches, the accumulators, the indices, and the entries of
the tables below their lengths. -/
structure SameSchedule (s t : State) : Prop where
  width : s.WSEL = t.WSEL
  rounds : s.R = t.R
  keyLength : s.KLEN = t.KLEN
  accumulators : s.KA = t.KA ∧ s.KB = t.KB
  indices : s.KI = t.KI ∧ s.KJ = t.KJ
  subkeys : ∀ i, i < subkeyCount s → subkey s i = subkey t i
  keyWords : ∀ j, j < keyWordCount s → tableGet s.L j 0 = tableGet t.L j 0

theorem subkeyCount_congr {s t : State} (h : s.R = t.R) : subkeyCount s = subkeyCount t := by
  rw [subkeyCount, subkeyCount, h]

theorem keyWordCount_congr {s t : State} (hw : s.WSEL = t.WSEL) (hk : s.KLEN = t.KLEN) :
    keyWordCount s = keyWordCount t := by
  rw [keyWordCount, keyWordCount, hw, hk]

/-- Tables that agree on an entry agree on it after the same write. -/
theorem tableGet_set_congr {α : Type} {n : Nat} {t u : Vector α n} (i j : Nat) (x d : α)
    (h : tableGet t j d = tableGet u j d) :
    tableGet (t.setIfInBounds i x) j d = tableGet (u.setIfInBounds i x) j d := by
  rw [tableGet_set, tableGet_set, h]

/-- An iteration whose indices are within the tables keeps the agreement. -/
theorem sameSchedule_mixStep {s t : State} (h : SameSchedule s t) (hKI : s.KI.toNat < subkeyCount s)
    (hKJ : s.KJ.toNat < keyWordCount s) : SameSchedule (mixStep s) (mixStep t) := by
  obtain ⟨hw, hr, hk, ⟨hKA, hKB⟩, ⟨hi, hj⟩, hS, hL⟩ := h
  have hreadS : tableGet s.S s.KI.toNat 0 = tableGet t.S t.KI.toNat 0 := by rw [← hi]; exact hS _ hKI
  have hreadL : tableGet s.L s.KJ.toNat 0 = tableGet t.L t.KJ.toNat 0 := by rw [← hj]; exact hL _ hKJ
  have ha : (mixStep s).KA = (mixStep t).KA := by simp only [mixStep, hw, hreadS, hKA, hKB]
  have hb : (mixStep s).KB = (mixStep t).KB := by simp only [mixStep, hw, hreadS, hreadL, hKA, hKB]
  refine ⟨hw, hr, hk, ⟨ha, hb⟩, ⟨?_, ?_⟩, fun i hlt => ?_, fun j hlt => ?_⟩
  · simp only [mixStep, hi, subkeyCount_congr hr]
  · simp only [mixStep, hj, keyWordCount_congr hw hk]
  · change tableGet (s.S.setIfInBounds s.KI.toNat (mixStep s).KA) i 0 =
      tableGet (t.S.setIfInBounds t.KI.toNat (mixStep t).KA) i 0
    rw [hi, ha]
    exact tableGet_set_congr _ _ _ _ (hS i hlt)
  · change tableGet (s.L.setIfInBounds s.KJ.toNat (mixStep s).KB) j 0 =
      tableGet (t.L.setIfInBounds t.KJ.toNat (mixStep t).KB) j 0
    rw [hj, hb]
    exact tableGet_set_congr _ _ _ _ (hL j hlt)

/-- States that agree when the mixing loop starts agree when it ends. -/
theorem sameSchedule_mixTables {s t : State} (hk : 1 ≤ s.KLEN.toNat) (h : SameSchedule (startMix s) (startMix t)) :
    SameSchedule (mixTables s) (mixTables t) := by
  have hmixed (n : Nat) : SameSchedule (mixed s n) (mixed t n) := by
    induction n with
    | zero => exact h
    | succ n ih =>
      obtain ⟨-, hS, hL⟩ := mixed_counts s n
      rw [mixed_succ, mixed_succ]
      refine sameSchedule_mixStep ih ?_ ?_
      · rw [toNat_mixed_KI, hS]
        exact Nat.mod_lt _ (Nat.lt_of_lt_of_le (by decide) (two_le_subkeyCount s))
      · rw [toNat_mixed_KJ hk, hL]
        exact Nat.mod_lt _ (keyWordCount_pos hk)
  have hcount : mixCount s = mixCount t := by
    rw [mixCount, mixCount, subkeyCount_congr (s := s) (t := t) h.rounds,
      keyWordCount_congr (s := s) (t := t) h.width h.keyLength]
  rw [mixTables_eq_mixed, mixTables_eq_mixed, hcount]
  exact hmixed _

/-- Key words agree when the width and the key bytes do. -/
theorem keyWord_congr {s t : State} (hw : s.WSEL = t.WSEL) (hlen : s.KLEN = t.KLEN)
    (hkey : ∀ i, i < s.KLEN.toNat → tableGet s.KEY i 0 = tableGet t.KEY i 0) (j : Nat) :
    keyWord s j = keyWord t j := by
  rw [keyWord, keyWord, ← hw, ← hlen]
  congr 1
  exact List.map_congr_left fun q _ => ite_congr rfl (hkey _) fun _ => rfl

/-- Seeded subkeys agree when the platform, the width and the round count do. -/
theorem subkey_seedTable_congr {s t : State} (hp : s.platform = t.platform) (hw : s.WSEL = t.WSEL) (hr : s.R = t.R)
    {i : Nat} (hi : i < subkeyCount s) : subkey (seedTable s) i = subkey (seedTable t) i := by
  rw [subkey_seedTable, subkey_seedTable, ← subkeyCount_congr hr, if_pos hi, if_pos hi, hw, hp]

/-- States with the same platform, latches and key build the same tables. -/
theorem sameSchedule_buildTables {s t : State} (hk : 1 ≤ s.KLEN.toNat) (hp : s.platform = t.platform)
    (hw : s.WSEL = t.WSEL) (hr : s.R = t.R) (hlen : s.KLEN = t.KLEN)
    (hkey : ∀ i, i < s.KLEN.toNat → tableGet s.KEY i 0 = tableGet t.KEY i 0) :
    SameSchedule (buildTables s) (buildTables t) := by
  refine sameSchedule_mixTables hk ⟨hw, hr, hlen, ⟨rfl, rfl⟩, ⟨rfl, rfl⟩,
    fun i hi => subkey_seedTable_congr (s := splitKey s) (t := splitKey t) hp hw hr hi, fun j hj => ?_⟩
  change tableGet (splitKey s).L j 0 = tableGet (splitKey t).L j 0
  have hj' : j < keyWordCount s := hj
  rw [tableGet_splitKey, tableGet_splitKey, ← keyWordCount_congr hw hlen, if_pos hj', if_pos hj',
    keyWord_congr hw hlen hkey]

/-- The end of INIT keeps the agreement. -/
theorem sameSchedule_initEnd {s t : State} {hs ht : List Byte} {ns nt : BitVec 8} (h : SameSchedule s t) :
    SameSchedule (initEnd hs ns s) (initEnd ht nt t) :=
  ⟨h.width, h.rounds, h.keyLength, h.accumulators, h.indices, h.subkeys, h.keyWords⟩

/-- Reads of one buffer agree when its bytes do. -/
theorem memRead_congr {s t : State} {b : Buf} {off n : Nat}
    (h : ∀ i, i < n → byteAt s b (off + i) = byteAt t b (off + i)) : memRead s b off n = memRead t b off n :=
  List.map_congr_left fun i hi => h i (List.mem_range.mp hi)

/-- decryptPair looks at the width, the round count and the subkeys below `t`. -/
theorem decryptPair_congr {s t : State} (hw : s.WSEL = t.WSEL) (hr : s.R = t.R)
    (hS : ∀ i, i < subkeyCount s → subkey s i = subkey t i) (p : Word × Word) :
    decryptPair s p = decryptPair t p := by
  have hrounds (r : Nat) (hle : r ≤ s.R.toNat) (p : Word × Word) : decRounds s r p = decRounds t r p := by
    induction r generalizing p with
    | zero => rfl
    | succ r ih =>
      rw [decRounds, decRounds, ih (by omega), decRound, decRound, hw,
        hS (2 * (r + 1)) (by unfold subkeyCount; omega), hS (2 * (r + 1) + 1) (by unfold subkeyCount; omega)]
  have ht := two_le_subkeyCount s
  rw [decryptPair, decryptPair, ← hr, hrounds _ le_rfl, unwhiten, unwhiten, hw, hS 0 (by omega), hS 1 (by omega)]

/-- Settles O27: the key is a function of the password, and the tables are functions of the key and the parameters. -/
theorem initDependsOnPasswordAlone : Obligations.InitDependsOnPasswordAlone := by
  intro s t wsel rounds klen hplatform hp hlen hbytes hwf hs ht
  obtain ⟨-, hrounds, hbyte⟩ := wellFormed_init hwf
  obtain ⟨-, -, -, -, hHLEN⟩ := hplatform
  obtain ⟨-, ⟨w, hw⟩, hklen⟩ := of_checkInit_eq_none hs
  have hHLEN' : 1 ≤ t.platform.HLEN := hp ▸ hHLEN
  have hpwd : password s = password t := by
    rw [password, password, ← hlen]
    exact memRead_congr fun o ho => by rw [Nat.zero_add]; exact hbytes o ho
  have hkey (i : Nat) (hi : i < klen) : tableGet (keyDerived w rounds klen s).KEY i 0 =
      tableGet (keyDerived w rounds klen t).KEY i 0 := by
    rw [tableGet_keyDerived hHLEN hklen hbyte, tableGet_keyDerived hHLEN' hklen hbyte, if_pos hi, if_pos hi, hp, hpwd]
  have hlatched : (keyDerived w rounds klen s).KLEN.toNat = klen := by
    rw [keyDerived, BitVec.toNat_ofNat, Nat.mod_eq_of_lt hbyte]
  have hbuilt : SameSchedule (buildTables (keyDerived w rounds klen s)) (buildTables (keyDerived w rounds klen t)) :=
    sameSchedule_buildTables (by omega) hp rfl rfl rfl (by rwa [hlatched])
  refine ⟨_, _, exec_init_of_check_none hHLEN hbyte hw hs, exec_init_of_check_none hHLEN' hbyte hw ht, fun i hi => ?_,
    fun i hi => ?_, decryptPair_congr (sameSchedule_initEnd hbuilt).width (sameSchedule_initEnd hbuilt).rounds
      (sameSchedule_initEnd hbuilt).subkeys⟩
  · refine (sameSchedule_initEnd hbuilt).subkeys i ?_
    rwa [subkeyCount, initEnd_R, buildTables_R, keyDerived, BitVec.toNat_ofNat, Nat.mod_eq_of_lt hrounds]
  · rw [initEnd_KEY, initEnd_KEY, buildTables_KEY, buildTables_KEY, hkey i hi]

end Sys2Proof.Proofs

/-! PROOFS. What no step changes while the engine is keyed (spec 41_keyschedule R156). -/

namespace Sys2Proof.Proofs

open Sys2Proof Sys2Proof.Machine

/-! ### The engine, and the operations that leave it alone -/

/-- The engine: whether there is one, and the tables and latches that R156 protects. -/
def engine (s : State) : Bool × Vector Word 512 × Vector Byte 255 × Width × BitVec 8 × BitVec 8 :=
  (s.STATUS.KEYED, s.S, s.KEY, s.WSEL, s.R, s.KLEN)

theorem engine_eq_iff (s t : State) :
    engine t = engine s ↔ t.STATUS.KEYED = s.STATUS.KEYED ∧ t.S = s.S ∧ t.KEY = s.KEY ∧ t.WSEL = s.WSEL ∧
      t.R = s.R ∧ t.KLEN = s.KLEN := by
  simp only [engine, Prod.mk.injEq]

@[simp] theorem engine_turns (s : State) (turns : List Turn) : engine { s with turns := turns } = engine s := rfl

@[simp] theorem engine_accept (v : BitVec 32) (s : State) : engine (accept v s) = engine s := rfl

@[simp] theorem engine_okEnd (s : State) : engine (okEnd s) = engine s := rfl

@[simp] theorem engine_errorEnd (e : ErrCode) (s : State) : engine (errorEnd e s) = engine s := rfl

@[simp] theorem engine_refuseAccess (s : State) : engine (refuseAccess s) = engine s := rfl

@[simp] theorem engine_answer (v : BitVec 64) (s : State) : engine (answer v s) = engine s := rfl

@[simp] theorem engine_refuseRead (s : State) : engine (refuseRead s) = engine s := rfl

@[simp] theorem engine_memWrite (b : Buf) (off : Nat) (xs : List Byte) (s : State) :
    engine (memWrite b off xs s) = engine s := by
  cases b <;> rfl

@[simp] theorem engine_stripOut (m : Nat) (s : State) : engine (stripOut m s) = engine s := rfl

@[simp] theorem engine_drawIv (s : State) : engine (drawIv s) = engine s := by
  have hadvance (u : State) : engine (rngAdvance u) = engine u := by simp [engine]
  exact (hadvance (rngAdvance s)).trans (hadvance s)

/-- What leaves the engine alone once does so however often it is repeated. -/
theorem engine_iterate {f : State → State} (hf : ∀ s, engine (f s) = engine s) (n : Nat) (s : State) :
    engine (f^[n] s) = engine s := by
  induction n with
  | zero => rfl
  | succ n ih => rw [Function.iterate_succ_apply', hf, ih]

/-! ### Host accesses -/

theorem engine_readReg (k : Nat) (s : State) : engine (readReg k s) = engine s := by
  unfold readReg
  split
  · exact engine_answer _ s
  · split
    · exact engine_refuseRead s
    · split
      · exact engine_answer _ s
      · exact engine_refuseRead s

theorem engine_writeReg (k : Nat) (v : BitVec 64) (s : State) : engine (writeReg k v s) = engine s := by
  unfold writeReg writeCmd writeStatus
  split
  case h_7 => exact engine_refuseAccess s
  all_goals split <;> rfl

theorem engine_readByte (b : Buf) (off : Nat) (s : State) : engine (readByte b off s) = engine s := by
  unfold readByte
  split
  · exact engine_refuseRead s
  · exact engine_answer _ s

theorem engine_writeByte (b : Buf) (off : Nat) (x : Byte) (s : State) : engine (writeByte b off x s) = engine s := by
  unfold writeByte
  split
  · exact engine_refuseAccess s
  · exact engine_memWrite b off [x] s

theorem engine_hostAccess (a : HostAccess) (s : State) : engine (hostAccess a s) = engine s := by
  cases a with
  | readReg k => exact engine_readReg k s
  | writeReg k v => exact engine_writeReg k v s
  | readByte b off => exact engine_readByte b off s
  | writeByte b off x => exact engine_writeByte b off x s

/-! ### Commands -/

theorem engine_encBody (s : State) : engine (encBody s) = engine s := by
  have hblock (u : State) : engine (encBlock u) = engine u := rfl
  have hiv (u : State) : engine (emitIv u) = engine u := rfl
  change engine (encBlock^[encBlocks s] (emitIv (drawIv s))) = engine s
  rw [engine_iterate hblock, hiv, engine_drawIv]

theorem engine_decBody (s : State) : engine (decBody s) = engine s := by
  have hblock (u : State) : engine (decBlock u) = engine u := rfl
  have hiv (u : State) : engine (recoverIv u) = engine u := rfl
  change engine (stripOut _ (decBlock^[decBlocks s] (recoverIv s))) = engine s
  rw [engine_stripOut, engine_iterate hblock, hiv]

/-- The checks of INIT do not pass while the engine is keyed (R282). -/
theorem ne_init_of_check_none {i : Instr} {s : State} (hs : s.STATUS.KEYED = true) (hcheck : check i s = none)
    (a b c : Nat) : i ≠ .init a b c := by
  rintro rfl
  obtain ⟨hunkeyed, -⟩ := of_checkInit_eq_none hcheck
  exact Bool.false_ne_true (hunkeyed.symm.trans hs)

/-- The pseudocode of a command whose checks pass on a keyed engine leaves the engine alone or, in a CLR, ends it. -/
theorem engine_bodyOf_of_keyed {i : Instr} {s : State} (hs : s.STATUS.KEYED = true) (hcheck : check i s = none) :
    engine (bodyOf i s) = engine s ∨ (i = .clr ∧ (bodyOf i s).STATUS.KEYED = false) := by
  cases i with
  | init a b c => exact absurd rfl (ne_init_of_check_none hs hcheck a b c)
  | clr => exact .inr ⟨rfl, rfl⟩
  | enc => exact .inl (engine_encBody s)
  | dec => exact .inl (engine_decBody s)
  | encp | decp | pad | unpad | rotl | rotr | ldp | stp => exact .inl rfl

/-- A whole command leaves a keyed engine alone, or it is a CLR and ends it. -/
theorem engine_runCommand {v : BitVec 32} {s t : State} (hs : s.STATUS.KEYED = true) (h : runCommand v s = .next t) :
    engine t = engine s ∨ (t.STATUS.KEYED = false ∧ decode v = .ok .clr) := by
  rcases runCommand_next_cases h with ⟨-, rfl⟩ | ⟨-, -, rfl⟩ | ⟨-, i, hi, ⟨e, -, rfl⟩ | ⟨hcheck, rfl⟩⟩
  · exact .inl (engine_refuseAccess s)
  · exact .inl rfl
  · exact .inl rfl
  · rcases engine_bodyOf_of_keyed (s := accept v s) hs hcheck with hbody | ⟨rfl, hend⟩
    · exact .inl ((engine_okEnd _).trans (hbody.trans (engine_accept v s)))
    · exact .inr ⟨hend, hi⟩

/-! ### Steps of the sequencer -/

/-- The first work phase of a command other than INIT is entered with no further work. -/
theorem engine_firstWork {i : Instr} (h : ∀ a b c, i ≠ .init a b c) (s : State) :
    engine (firstWork i s) = engine s := by
  cases i with
  | init a b c => exact absurd rfl (h a b c)
  | _ => rfl

/-- The DECODE step of a keyed engine starts no INIT. -/
theorem engine_decodeStep {s : State} (hs : s.STATUS.KEYED = true) : engine (decodeStep s) = engine s := by
  unfold decodeStep
  split
  · exact engine_errorEnd _ s
  · split
    case h_1 => exact engine_errorEnd _ s
    case h_2 hcheck => exact engine_firstWork (ne_init_of_check_none hs hcheck) s

/-- No INIT is at work on a keyed engine: its check would not have passed. -/
theorem not_building_of_keyed {s : State} (hinv : Inv s) (hs : s.STATUS.KEYED = true) : s.PHASE.building = false := by
  by_contra hbuilding
  have hidle : s.PHASE ≠ .IDLE := fun h => by simp [h, Phase.building] at hbuilding
  have hdecode : s.PHASE ≠ .DECODE := fun h => by simp [h, Phase.building] at hbuilding
  obtain ⟨i, -, hruns, hcheck⟩ := hinv.command hidle hdecode
  have hinit : ∃ a b c, i = .init a b c := by
    revert hbuilding hruns
    cases s.PHASE <;> simp [Phase.building, Phase.runs]
  obtain ⟨a, b, c, hi⟩ := hinit
  exact ne_init_of_check_none hs hcheck a b c hi

/-- The single-step commands do in EXEC what they do as one piece. -/
theorem eq_bodyOf_of_singleStepBody {i : Instr} {body : State → State} (h : singleStepBody i = some body) :
    body = bodyOf i := by
  cases i <;> cases h <;> rfl

/-- What row EXEC does when it answers a next state. -/
theorem execRow_next {s t : State} (h : execRow s = .next t) : ∃ i, decode s.OPR = .ok i ∧ t = okEnd (bodyOf i s) := by
  unfold execRow at h
  split at h
  case h_1 => cases h
  case h_2 i hi =>
    split at h
    case h_1 body hbody =>
      cases h
      exact ⟨i, hi, by rw [eq_bodyOf_of_singleStepBody hbody]⟩
    case h_2 => cases h

/-- Row EXEC leaves a keyed engine alone, or it is that of a CLR and ends it. -/
theorem engine_execRow {s t : State} (hinv : Inv s) (hphase : s.PHASE = .EXEC) (hs : s.STATUS.KEYED = true)
    (h : execRow s = .next t) : engine t = engine s ∨ (t.STATUS.KEYED = false ∧ decode s.OPR = .ok .clr) := by
  obtain ⟨i, hi, rfl⟩ := execRow_next h
  obtain ⟨j, hj, -, hcheck⟩ := hinv.command (by simp [hphase]) (by simp [hphase])
  obtain rfl : i = j := by simpa using hi.symm.trans hj
  rcases engine_bodyOf_of_keyed hs hcheck with hbody | ⟨rfl, hend⟩
  · exact .inl ((engine_okEnd _).trans hbody)
  · exact .inr ⟨hend, hi⟩

theorem engine_encRoundStep {after : State → State} {s : State} (h : engine (after s) = engine s) :
    engine (encRoundStep after s) = engine s := by
  unfold encRoundStep
  split
  · rfl
  · exact h

theorem engine_decRoundStep {after : State → State} {s : State} (h : engine (after s) = engine s) :
    engine (decRoundStep after s) = engine s := by
  unfold decRoundStep
  split
  · rfl
  · exact h

theorem engine_encBlockEnd (s : State) : engine (encBlockEnd s) = engine s := by
  simp only [encBlockEnd]
  split <;> rfl

theorem engine_pairPreRow {s t : State} (h : pairPreRow s = .next t) : engine t = engine s := by
  unfold pairPreRow at h
  split at h <;> cases h <;> rfl

theorem engine_pairRoundRow {s t : State} (h : pairRoundRow s = .next t) : engine t = engine s := by
  unfold pairRoundRow at h
  split at h <;> cases h
  · exact engine_encRoundStep rfl
  · exact engine_decRoundStep rfl

theorem engine_pairPostRow {s t : State} (h : pairPostRow s = .next t) : engine t = engine s := by
  unfold pairPostRow at h
  split at h <;> cases h <;> rfl

/-- A step of the sequencer leaves a keyed engine alone, or it is the EXEC step of a CLR and ends it. -/
theorem engine_seqStep {s t : State} (hinv : Inv s) (hs : s.STATUS.KEYED = true) (h : seqStep s = .next t) :
    engine t = engine s ∨ (t.STATUS.KEYED = false ∧ s.PHASE = .EXEC ∧ decode s.OPR = .ok .clr) := by
  have hbuilding := not_building_of_keyed hinv hs
  unfold seqStep at h
  cases hphase : s.PHASE <;> simp only [hphase] at h
  case EXEC =>
    rcases engine_execRow hinv hphase hs h with hkept | ⟨hend, hclr⟩
    · exact .inl hkept
    · exact .inr ⟨hend, rfl, hclr⟩
  case K_HASH | K_SPLIT | K_MIX => simp [hphase, Phase.building] at hbuilding
  case P_PRE => exact .inl (engine_pairPreRow h)
  case P_ROUND => exact .inl (engine_pairRoundRow h)
  case P_POST => exact .inl (engine_pairPostRow h)
  all_goals
    cases h
    left
  case DECODE => exact engine_decodeStep hs
  case E_IV => exact engine_drawIv s
  case E_IVROUND => exact engine_encRoundStep rfl
  case E_ROUND => exact engine_encRoundStep (engine_encBlockEnd s)
  case D_IVROUND | D_ROUND => exact engine_decRoundStep rfl
  case IDLE | E_LOAD | D_IVLOAD | D_LOAD | D_UNPAD => rfl

/-! ### Steps of every agent -/

/-- Settles O28: of the agents' moves only a reset and a CLR, whole or in its EXEC step, touch the engine. -/
theorem keyedTablesNeverChange : Obligations.KeyedTablesNeverChange := by
  intro s t hinv hstep hs
  have hkept (h : engine t = engine s) : t.STATUS.KEYED = true ∧ t.S = s.S ∧ t.KEY = s.KEY ∧ t.WSEL = s.WSEL ∧
      t.R = s.R ∧ t.KLEN = s.KLEN := by
    obtain ⟨hk, htables⟩ := (engine_eq_iff s t).mp h
    exact ⟨hk.trans hs, htables⟩
  rcases step_next_cases hstep with ⟨-, h⟩ | ⟨a, rest, -, rfl⟩ | ⟨rest, -, h⟩ | ⟨v, rest, hturn, h⟩ | ⟨rest, hturn, rfl⟩
  · exact (engine_seqStep hinv hs h).imp hkept fun ⟨hend, hclr⟩ => ⟨hend, .inr (.inr hclr)⟩
  · exact .inl (hkept ((engine_hostAccess a _).trans (engine_turns s rest)))
  · exact (engine_seqStep (inv_turns hinv rest) hs h).imp hkept fun ⟨hend, hclr⟩ => ⟨hend, .inr (.inr hclr)⟩
  · exact (engine_runCommand (s := { s with turns := rest }) hs h).imp hkept
      fun ⟨hend, hclr⟩ => ⟨hend, .inr (.inl ⟨v, rest, hturn, hclr⟩)⟩
  · exact .inr ⟨rfl, .inl ⟨rest, hturn⟩⟩

end Sys2Proof.Proofs

/-! PROOFS. The block primitive and the commands ENCP and DECP (spec 42_blockcipher R180 to R185). -/

namespace Sys2Proof.Proofs

open Sys2Proof Sys2Proof.Machine

/-! ### The lines of a round (R180, R181) -/

/-- A round by its two lines, the second with the X the first has just written (R180). -/
theorem eq_encRound_iff (s : State) (rc : Nat) (p q : Word × Word) :
    q = encRound s rc p ↔
      q.1 = wordAdd s.WSEL (rotl s.WSEL (p.1 ^^^ p.2) p.2) (subkey s (2 * rc)) ∧
      q.2 = wordAdd s.WSEL (rotl s.WSEL (p.2 ^^^ q.1) q.1) (subkey s (2 * rc + 1)) :=
  Prod.ext_iff.trans (and_congr_right fun hx => by rw [hx]; rfl)

/-- An un-round by its two lines, the second with the Y the first has just restored (R181). -/
theorem eq_decRound_iff (s : State) (rc : Nat) (p q : Word × Word) :
    q = decRound s rc p ↔
      q.2 = rotr s.WSEL (wordSub s.WSEL p.2 (subkey s (2 * rc + 1))) p.1 ^^^ p.1 ∧
      q.1 = rotr s.WSEL (wordSub s.WSEL p.1 (subkey s (2 * rc))) q.2 ^^^ q.2 :=
  (Prod.ext_iff.trans and_comm).trans (and_congr_right fun hy => by rw [hy]; rfl)

/-! ### Pairs of words -/

/-- Both components lie in `[0, mask]`: the set on which R182 makes the primitive a bijection. -/
def FitsPair (w : Width) (p : Word × Word) : Prop := Fits w p.1 ∧ Fits w p.2

theorem fitsPair_words (s : State) : FitsPair s.WSEL (wordA s, wordB s) := ⟨fits_toWord _ _, fits_toWord _ _⟩

theorem fitsPair_whiten (s : State) (p : Word × Word) : FitsPair s.WSEL (whiten s p) :=
  ⟨fits_wordAdd _ _ _, fits_wordAdd _ _ _⟩

theorem fitsPair_unwhiten (s : State) (p : Word × Word) : FitsPair s.WSEL (unwhiten s p) :=
  ⟨fits_wordSub _ _ _, fits_wordSub _ _ _⟩

theorem fitsPair_encRound (s : State) (rc : Nat) (p : Word × Word) : FitsPair s.WSEL (encRound s rc p) :=
  ⟨fits_wordAdd _ _ _, fits_wordAdd _ _ _⟩

/-- An un-round takes words to words: unlike a round, it does not mask what it adds by exclusive or. -/
theorem fitsPair_decRound {s : State} {p : Word × Word} (hp : FitsPair s.WSEL p) (rc : Nat) :
    FitsPair s.WSEL (decRound s rc p) := by
  have hy : Fits s.WSEL (decRound s rc p).2 := fits_xor (fits_rotr _ _ _) hp.1
  exact ⟨fits_xor (fits_rotr _ _ _) hy, hy⟩

theorem fitsPair_encRounds {s : State} {p : Word × Word} (hp : FitsPair s.WSEL p) (r : Nat) :
    FitsPair s.WSEL (encRounds s r p) := by
  cases r with
  | zero => exact hp
  | succ r => exact fitsPair_encRound s (r + 1) _

theorem fitsPair_decRounds {s : State} {p : Word × Word} (hp : FitsPair s.WSEL p) (r : Nat) :
    FitsPair s.WSEL (decRounds s r p) := by
  induction r generalizing p with
  | zero => exact hp
  | succ r ih => exact ih (fitsPair_decRound hp (r + 1))

theorem fitsPair_encryptPair (s : State) (p : Word × Word) : FitsPair s.WSEL (encryptPair s p) :=
  fitsPair_encRounds (fitsPair_whiten s p) _

theorem fitsPair_decryptPair (s : State) (p : Word × Word) : FitsPair s.WSEL (decryptPair s p) :=
  fitsPair_unwhiten s _

/-! ### The primitive and its inverse (R182) -/

theorem unwhiten_whiten {s : State} {p : Word × Word} (hp : FitsPair s.WSEL p) : unwhiten s (whiten s p) = p :=
  Prod.ext (wordSub_wordAdd hp.1 _) (wordSub_wordAdd hp.2 _)

theorem whiten_unwhiten {s : State} {p : Word × Word} (hp : FitsPair s.WSEL p) : whiten s (unwhiten s p) = p :=
  Prod.ext (wordAdd_wordSub hp.1 _) (wordAdd_wordSub hp.2 _)

/-- Under one other half `m` and one subkey `k`, the line of an un-round inverts the line of a round. -/
theorem eq_encLine_iff {w : Width} {v x m : Word} (hv : Fits w v) (hx : Fits w x) (hm : Fits w m) (k : Word) :
    x = wordAdd w (rotl w (v ^^^ m) m) k ↔ v = rotr w (wordSub w x k) m ^^^ m := by
  constructor
  · rintro rfl
    rw [wordSub_wordAdd (fits_rotl _ _ _), rotr_rotl (fits_xor hv hm), BitVec.xor_assoc, BitVec.xor_self,
      BitVec.xor_zero]
  · rintro rfl
    rw [BitVec.xor_assoc, BitVec.xor_self, BitVec.xor_zero, rotl_rotr (fits_wordSub _ _ _), wordAdd_wordSub hx]

/-- An un-round inverts the round: its first line the round's second, under the new X, and its second line the
round's first, under the old Y. -/
theorem eq_encRound_iff_eq_decRound {s : State} {p q : Word × Word} (hp : FitsPair s.WSEL p)
    (hq : FitsPair s.WSEL q) (rc : Nat) : q = encRound s rc p ↔ p = decRound s rc q := by
  obtain ⟨hX, hY⟩ := hp
  obtain ⟨hX', hY'⟩ := hq
  rw [eq_encRound_iff, eq_decRound_iff, eq_encLine_iff hX hX' hY, eq_encLine_iff hY hY' hX', and_comm]

theorem decRound_encRound {s : State} {p : Word × Word} (hp : FitsPair s.WSEL p) (rc : Nat) :
    decRound s rc (encRound s rc p) = p :=
  ((eq_encRound_iff_eq_decRound hp (fitsPair_encRound s rc p) rc).mp rfl).symm

theorem encRound_decRound {s : State} {p : Word × Word} (hp : FitsPair s.WSEL p) (rc : Nat) :
    encRound s rc (decRound s rc p) = p :=
  ((eq_encRound_iff_eq_decRound (fitsPair_decRound hp rc) hp rc).mpr rfl).symm

theorem decRounds_encRounds {s : State} {p : Word × Word} (hp : FitsPair s.WSEL p) (r : Nat) :
    decRounds s r (encRounds s r p) = p := by
  induction r with
  | zero => rfl
  | succ r ih => rw [encRounds, decRounds, decRound_encRound (fitsPair_encRounds hp r), ih]

theorem encRounds_decRounds {s : State} {p : Word × Word} (hp : FitsPair s.WSEL p) (r : Nat) :
    encRounds s r (decRounds s r p) = p := by
  induction r generalizing p with
  | zero => rfl
  | succ r ih => rw [encRounds, decRounds, ih (fitsPair_decRound hp (r + 1)), encRound_decRound hp]

theorem decryptPair_encryptPair {s : State} {p : Word × Word} (hp : FitsPair s.WSEL p) :
    decryptPair s (encryptPair s p) = p := by
  rw [decryptPair, encryptPair, decRounds_encRounds (fitsPair_whiten s p), unwhiten_whiten hp]

theorem encryptPair_decryptPair {s : State} {p : Word × Word} (hp : FitsPair s.WSEL p) :
    encryptPair s (decryptPair s p) = p := by
  rw [decryptPair, encryptPair, whiten_unwhiten (fitsPair_decRounds hp _), encRounds_decRounds hp]

/-- Settles O29: each line, each round and the key additions are undone in reverse order. -/
theorem decryptPairInvertsEncryptPair : Obligations.DecryptPairInvertsEncryptPair :=
  fun _ _ _ ha hb => ⟨decryptPair_encryptPair ⟨ha, hb⟩, encryptPair_decryptPair ⟨ha, hb⟩⟩

/-! ### The loops round by round (R180, R181, R185) -/

/-- A sequence of pairs that follows the rounds reaches at `r` what the loop makes of its start. -/
theorem encRounds_eq_of_rounds {s : State} {p : Nat → Word × Word} {r : Nat}
    (h : ∀ rc, rc < r → p (rc + 1) = encRound s (rc + 1) (p rc)) : encRounds s r (p 0) = p r := by
  induction r with
  | zero => rfl
  | succ r ih => rw [encRounds, ih fun rc hrc => h rc (by omega), ← h r (by omega)]

/-- A sequence of pairs that follows the un-rounds downwards reaches at 0 what the loop makes of its pair at `r`. -/
theorem decRounds_eq_of_unrounds {s : State} {p : Nat → Word × Word} {r : Nat}
    (h : ∀ rc, rc < r → p rc = decRound s (rc + 1) (p (rc + 1))) : decRounds s r (p r) = p 0 := by
  induction r with
  | zero => rfl
  | succ r ih => rw [decRounds, ← h r (by omega), ih fun rc hrc => h rc (by omega)]

/-- Settles O31: the sequence starts with the key additions and follows the rounds. -/
theorem encryptPairRunsRoundsInOrder : Obligations.EncryptPairRunsRoundsInOrder := by
  intro s p a b hstart hrounds
  have hwhiten : p 0 = whiten s (a, b) := hstart
  refine ⟨?_, fitsPair_encryptPair s (a, b)⟩
  rw [encryptPair, ← hwhiten]
  exact encRounds_eq_of_rounds fun rc hrc => (eq_encRound_iff ..).mpr (hrounds rc hrc)

/-- Settles O32: the sequence follows the un-rounds down to 0, where the key subtractions are left to do. -/
theorem decryptPairRunsRoundsInReverse : Obligations.DecryptPairRunsRoundsInReverse := by
  intro s p a b hstart hunrounds
  have hloop : decRounds s s.R.toNat (p s.R.toNat) = p 0 :=
    decRounds_eq_of_unrounds fun rc hrc => (eq_decRound_iff ..).mpr (hunrounds rc hrc)
  rw [decryptPair, ← hstart, hloop]
  rfl

/-- Settles O30: both loops run no iteration. -/
theorem zeroRoundsAddKeysOnly : Obligations.ZeroRoundsAddKeysOnly := by
  intro s a b hR
  have hzero : s.R.toNat = 0 := by rw [hR]; rfl
  rw [encryptPair, decryptPair, subkeyCount, hzero]
  exact ⟨rfl, rfl, rfl⟩

/-! ### ENCP and DECP (R183, R184) -/

/-- encryptPair looks at the width, the round count and the subkeys. -/
theorem encryptPair_congr {s t : State} (hw : s.WSEL = t.WSEL) (hr : s.R = t.R) (hS : s.S = t.S)
    (p : Word × Word) : encryptPair s p = encryptPair t p := by
  have hkey (i : Nat) : subkey s i = subkey t i := by rw [subkey, subkey, hS]
  have hrounds (r : Nat) (q : Word × Word) : encRounds s r q = encRounds t r q := by
    induction r with
    | zero => rfl
    | succ r ih => rw [encRounds, encRounds, ih, encRound, encRound, hw, hkey, hkey]
  rw [encryptPair, encryptPair, ← hr, hrounds, whiten, whiten, hw, hkey, hkey]

/-- On a keyed engine ENCP runs its pseudocode and ends well. -/
theorem exec_encp_of_keyed {s : State} (hk : s.STATUS.KEYED = true) :
    exec .encp s = .next (okEnd (encpBody s)) :=
  exec_of_check_none (i := .encp) (checkKeyed_of_keyed hk)

/-- On a keyed engine DECP runs its pseudocode and ends well. -/
theorem exec_decp_of_keyed {s : State} (hk : s.STATUS.KEYED = true) :
    exec .decp s = .next (okEnd (decpBody s)) :=
  exec_of_check_none (i := .decp) (checkKeyed_of_keyed hk)

/-- After ENCP the words of A and B are the encrypted pair: masking it again changes nothing. -/
theorem words_okEnd_encpBody (s : State) :
    (wordA (okEnd (encpBody s)), wordB (okEnd (encpBody s))) = encryptPair s (wordA s, wordB s) :=
  have ⟨hA, hB⟩ := fitsPair_encryptPair s (wordA s, wordB s)
  Prod.ext hA hB

/-- After DECP the words of A and B are the decrypted pair: masking it again changes nothing. -/
theorem words_okEnd_decpBody (s : State) :
    (wordA (okEnd (decpBody s)), wordB (okEnd (decpBody s))) = decryptPair s (wordA s, wordB s) :=
  have ⟨hA, hB⟩ := fitsPair_decryptPair s (wordA s, wordB s)
  Prod.ext hA hB

/-- What DECP computes in the state ENCP leaves: the words ENCP was given. -/
theorem decryptPair_after_encp (s : State) :
    decryptPair (okEnd (encpBody s)) (wordA (okEnd (encpBody s)), wordB (okEnd (encpBody s))) =
      (wordA s, wordB s) := by
  rw [words_okEnd_encpBody, decryptPair_congr (s := okEnd (encpBody s)) (t := s) rfl rfl fun _ _ => rfl,
    decryptPair_encryptPair (fitsPair_words s)]

/-- What ENCP computes in the state DECP leaves: the words DECP was given. -/
theorem encryptPair_after_decp (s : State) :
    encryptPair (okEnd (decpBody s)) (wordA (okEnd (decpBody s)), wordB (okEnd (decpBody s))) =
      (wordA s, wordB s) := by
  rw [words_okEnd_decpBody, encryptPair_congr (s := okEnd (decpBody s)) (t := s) rfl rfl rfl,
    encryptPair_decryptPair (fitsPair_words s)]

/-- Settles O33: the command passes its one check exactly when keyed, and its pseudocode writes A, B, X, Y and RC. -/
theorem encpEncryptsPair : Obligations.EncpEncryptsPair :=
  ⟨by decide, fun _ hopc hfield => endsIllegal_of_nonzero_fieldZ hopc (by decide) hfield,
    fun s => ⟨fun hk => ⟨rcAfterEnc s, exec_encp_of_keyed hk⟩,
      fun hk => exec_of_check_some (i := .encp) (checkKeyed_of_not_keyed hk)⟩⟩

/-- Settles O34: as for ENCP; and each command leaves the engine alone, so the other undoes it. -/
theorem decpDecryptsPair : Obligations.DecpDecryptsPair := by
  refine ⟨by decide, fun _ hopc hfield => endsIllegal_of_nonzero_fieldZ hopc (by decide) hfield,
    fun s => ⟨fun hk => ⟨0, exec_decp_of_keyed hk⟩,
      fun hk => exec_of_check_some (i := .decp) (checkKeyed_of_not_keyed hk), fun hk => ⟨?_, ?_⟩⟩⟩
  · obtain ⟨hA, hB⟩ := Prod.mk.inj (decryptPair_after_encp s)
    exact ⟨_, _, exec_encp_of_keyed hk, exec_decp_of_keyed hk, hA, hB⟩
  · obtain ⟨hA, hB⟩ := Prod.mk.inj (encryptPair_after_decp s)
    exact ⟨_, _, exec_decp_of_keyed hk, exec_encp_of_keyed hk, hA, hB⟩

end Sys2Proof.Proofs

/-! PROOFS. The functions pad and unpad on byte sequences (spec 43_padding R200, R201, R204). -/

namespace Sys2Proof.Proofs

open Sys2Proof Sys2Proof.Machine

/-! ### The pad length (R200) -/

theorem padLength_pos (w : Width) (len : Nat) : 1 ≤ padLength w len :=
  Nat.sub_pos_of_lt (Nat.mod_lt len (blockSize_pos w))

theorem padLength_le (w : Width) (len : Nat) : padLength w len ≤ blockSize w := Nat.sub_le _ _

/-- A whole block of filler goes to the aligned lengths and to no others. -/
theorem padLength_eq_blockSize_iff (w : Width) (len : Nat) :
    padLength w len = blockSize w ↔ len % blockSize w = 0 := by
  have hpos := blockSize_pos w
  unfold padLength
  omega

/-- The padded length is the next whole number of blocks. -/
theorem add_padLength_eq_mul (w : Width) (len : Nat) :
    len + padLength w len = blockSize w * (len / blockSize w + 1) := by
  have hdiv := Nat.div_add_mod len (blockSize w)
  have hmod := Nat.mod_lt len (blockSize_pos w)
  rw [padLength, Nat.mul_succ]
  omega

/-- The padded length is a multiple of the block size. -/
theorem add_padLength_mod (w : Width) (len : Nat) : (len + padLength w len) % blockSize w = 0 := by
  rw [add_padLength_eq_mul, Nat.mul_mod_right]

/-- No shorter multiple of the block size exceeds the length. -/
theorem add_padLength_le {w : Width} {len m : Nat} (hlt : len < m) (hm : m % blockSize w = 0) :
    len + padLength w len ≤ m := by
  obtain ⟨k, rfl⟩ := Nat.dvd_of_mod_eq_zero hm
  rw [add_padLength_eq_mul]
  exact Nat.mul_le_mul_left _ (Nat.div_lt_of_lt_mul hlt)

theorem padLength_le_sixteen (w : Width) (len : Nat) : padLength w len ≤ 16 := by
  have hle := padLength_le w len
  rcases blockSize_cases w with h | h | h <;> omega

/-- The pad length fits the filler byte. -/
theorem toNat_fillerByte (w : Width) (len : Nat) : (BitVec.ofNat 8 (padLength w len)).toNat = padLength w len := by
  have hle := padLength_le_sixteen w len
  rw [BitVec.toNat_ofNat, Nat.mod_eq_of_lt (by omega)]

theorem fillerByte_ne_zero (w : Width) (len : Nat) : BitVec.ofNat 8 (padLength w len) ≠ 0 := by
  intro h
  have hpos := padLength_pos w len
  rw [← toNat_fillerByte, h] at hpos
  exact absurd hpos (by decide)

/-! ### pad (R200) -/

@[simp] theorem length_pad (w : Width) (b : List Byte) : (pad w b).length = b.length + padLength w b.length := by
  rw [pad, List.length_append, List.length_replicate]

/-- A padded message starts with the message. -/
theorem getD_pad_of_lt (w : Width) {b : List Byte} {i : Nat} (hi : i < b.length) : (pad w b).getD i 0 = b.getD i 0 :=
  List.getD_append _ _ _ _ hi

/-- Behind the message every byte is the filler. -/
theorem getD_pad_of_ge (w : Width) {b : List Byte} {i : Nat} (hi : b.length ≤ i)
    (hend : i < b.length + padLength w b.length) : (pad w b).getD i 0 = BitVec.ofNat 8 (padLength w b.length) := by
  rw [pad, List.getD_append_right _ _ _ _ hi, List.getD_replicate _ (by omega)]

/-- Settles O37: the pad length is the filler's length and value, and the distance to the next whole block. -/
theorem padAppendsShortestFiller : Obligations.PadAppendsShortestFiller := by
  intro w b
  refine ⟨padLength w b.length, padLength_pos w _, padLength_le w _, rfl, toNat_fillerByte w _,
    padLength_eq_blockSize_iff w _, ?_, fun m hlt hm => ?_⟩
  · rw [length_pad, add_padLength_mod]
  · rw [length_pad]
    exact add_padLength_le hlt hm

/-! ### unpad (R201) -/

/-- The test unpad makes of a non-empty input with last byte `n`: the last `n` bytes exist and all equal `n`. -/
theorem unpad_of_getLast? {b : List Byte} {n : Byte} (hlast : b.getLast? = some n) :
    unpad b =
      if n ≠ 0 ∧ n.toNat ≤ b.length ∧ ∀ x ∈ b.drop (b.length - n.toNat), x = n then
        (b.take (b.length - n.toNat), false)
      else (b, true) := by
  simp only [unpad, hlast]
  by_cases hzero : n = 0
  · rw [if_pos hzero, if_neg fun h => h.1 hzero]
  · by_cases hlong : n.toNat > b.length
    · rw [if_neg hzero, if_pos hlong, if_neg (by omega)]
    · have hall : (b.drop (b.length - n.toNat)).all (fun x => x == n) = true ↔
          ∀ x ∈ b.drop (b.length - n.toNat), x = n := by
        rw [List.all_eq_true]
        simp only [beq_iff_eq]
      simp only [hzero, hlong, hall, Nat.not_lt.mp hlong, ↓reduceIte, ne_eq, not_false_eq_true, true_and]

/-- A property of the bytes from an index on, by their indices. -/
theorem forall_mem_drop_eq_iff {b : List Byte} {k : Nat} {n : Byte} :
    (∀ x ∈ b.drop k, x = n) ↔ ∀ i, k ≤ i → i < b.length → b.getD i 0 = n := by
  constructor
  · intro h i hk hi
    rw [List.getD_eq_getElem _ _ hi]
    exact h _ (List.mem_drop_iff_getElem.mpr ⟨i - k, by omega, by simp [hk]⟩)
  · intro h x hx
    obtain ⟨i, hi, rfl⟩ := List.mem_drop_iff_getElem.mp hx
    rw [← List.getD_eq_getElem _ 0]
    exact h _ (Nat.le_add_right _ _) (by omega)

/-- Filler of `n` bytes of value `n`, not 0, is stripped from behind any message. -/
theorem unpad_append_replicate (b : List Byte) {n : Byte} (hn : n ≠ 0) :
    unpad (b ++ List.replicate n.toNat n) = (b, false) := by
  have hpos : n.toNat ≠ 0 := fun h => hn (BitVec.eq_of_toNat_eq h)
  have hlast : (b ++ List.replicate n.toNat n).getLast? = some n := by
    rw [List.getLast?_append, List.getLast?_replicate, if_neg hpos, Option.some_or]
  have hlen : (b ++ List.replicate n.toNat n).length - n.toNat = b.length := by
    rw [List.length_append, List.length_replicate, Nat.add_sub_cancel]
  rw [unpad_of_getLast? hlast, hlen, List.drop_left, List.take_left, if_pos]
  exact ⟨hn, by simp, fun x hx => List.eq_of_mem_replicate hx⟩

/-- unpad undoes pad (R204). -/
theorem unpad_pad (w : Width) (b : List Byte) : unpad (pad w b) = (b, false) := by
  have h := unpad_append_replicate b (fillerByte_ne_zero w b.length)
  rwa [toNat_fillerByte] at h

/-- unpad never lengthens its input. -/
theorem length_unpad_le (b : List Byte) : (unpad b).1.length ≤ b.length := by
  cases hlast : b.getLast? with
  | none => rw [List.getLast?_eq_none_iff.mp hlast]; exact le_rfl
  | some n =>
    rw [unpad_of_getLast? hlast]
    split
    · exact List.length_take_le' _ _
    · exact le_rfl

/-- Settles O38: the cases are those of unpad's test and of its negation. -/
theorem unpadStripsOrLeaves : Obligations.UnpadStripsOrLeaves := by
  refine ⟨rfl, fun b n hlast => ⟨fun h => ?_, fun hn hle hall => ?_, fun w => unpad_pad w b⟩⟩
  · rw [unpad_of_getLast? hlast, if_neg]
    rintro ⟨hn, hle, hall⟩
    rcases h with hzero | hlong | ⟨i, hi, hlt, hne⟩
    · exact hn hzero
    · omega
    · exact hne (forall_mem_drop_eq_iff.mp hall i hi hlt)
  · rw [unpad_of_getLast? hlast, if_pos ⟨hn, hle, forall_mem_drop_eq_iff.mpr hall⟩]

end Sys2Proof.Proofs

/-! PROOFS. The commands PAD and UNPAD (spec 43_padding R202 to R204). -/

namespace Sys2Proof.Proofs

open Sys2Proof Sys2Proof.Machine

/-! ### The checks of ENC, PAD and UNPAD (60_exceptions R287) -/

theorem checkMessage_of_not_keyed {s : State} (hk : s.STATUS.KEYED = false) : checkMessage s = some .E_STATE := by
  simp [checkMessage, notKeyed, hk]

theorem checkMessage_of_in_range {s : State} (hk : s.STATUS.KEYED = true)
    (hlen : s.IN_LEN.toNat ≤ s.platform.IN_MAX) : checkMessage s = none := by
  simp [checkMessage, notKeyed, inLenTooLong, hk, Nat.not_lt.mpr hlen]

theorem checkMessage_of_too_long {s : State} (hk : s.STATUS.KEYED = true)
    (hlen : s.IN_LEN.toNat > s.platform.IN_MAX) : checkMessage s = some .E_RANGE := by
  simp [checkMessage, notKeyed, inLenTooLong, hk, hlen]

/-! ### OUT after a command -/

/-- A byte is read off the buffers and the reset count alone; the ends of a command and its results in registers leave
both alone. -/
@[simp] theorem byteAt_okEnd (s : State) (b : Buf) (a : Nat) : byteAt (okEnd s) b a = byteAt s b a := by
  cases b <;> rfl

@[simp] theorem byteAt_setOutLen (n : Nat) (s : State) (b : Buf) (a : Nat) :
    byteAt (setOutLen n s) b a = byteAt s b a := by
  cases b <;> rfl

@[simp] theorem byteAt_setPadnv (nv : Bool) (s : State) (b : Buf) (a : Nat) :
    byteAt (setPadnv nv s) b a = byteAt s b a := by
  cases b <;> rfl


theorem byteAt_memWrite_output_of_lt {xs : List Byte} {a : Nat} (ha : a < xs.length) (s : State) :
    byteAt (memWrite .output 0 xs s) .output a = xs.getD a 0 := by
  rw [byteAt_memWrite, if_pos ⟨rfl, Nat.zero_le a, by omega⟩, Nat.sub_zero]

theorem byteAt_memWrite_output_of_ge {xs : List Byte} {a : Nat} (ha : xs.length ≤ a) (s : State) :
    byteAt (memWrite .output 0 xs s) .output a = byteAt s .output a := by
  rw [byteAt_memWrite, if_neg (by omega)]

theorem memRead_memWrite_output (xs : List Byte) (s : State) :
    memRead (memWrite .output 0 xs s) .output 0 xs.length = xs := by
  refine List.ext_getElem (length_memRead ..) fun i _ hi => ?_
  rw [← List.getD_eq_getElem _ 0, ← List.getD_eq_getElem _ 0, getD_memRead _ _ _ _ _ hi, Nat.zero_add,
    byteAt_memWrite_output_of_lt hi]

/-- Writing a run to OUT and its length to OUT_LEN changes nothing else. -/
theorem setOutLen_memWrite_output (n : Nat) (xs : List Byte) (s : State) :
    setOutLen n (memWrite .output 0 xs s) = { s with OUT := s.OUT.putBytes 0 xs, OUT_LEN := BitVec.ofNat 32 n } := by
  rw [setOutLen, memWrite, State.buffer, State.setBuffer]

/-! ### The message in IN -/

/-- The bytes of the message, `IN[0 .. IN_LEN-1]`. -/
def message (s : State) : List Byte := memRead s .input 0 s.IN_LEN.toNat

@[simp] theorem length_message (s : State) : (message s).length = s.IN_LEN.toNat := length_memRead ..

theorem getD_message {s : State} {a : Nat} (ha : a < s.IN_LEN.toNat) : (message s).getD a 0 = byteAt s .input a := by
  rw [message, getD_memRead _ _ _ _ _ ha, Nat.zero_add]

/-! ### PAD (R202, R204) -/

theorem padBody_eq (s : State) :
    padBody s =
      setOutLen (pad s.WSEL (message s)).length (memWrite .output 0 (pad s.WSEL (message s)) s) := rfl

/-- A message that fits IN and its filler have a length that fits OUT_LEN (00_scope R8). -/
theorem toNat_OUT_LEN_padBody {s : State} (hp : s.platform.wf) (hlen : s.IN_LEN.toNat ≤ s.platform.IN_MAX) :
    (padBody s).OUT_LEN.toNat = s.IN_LEN.toNat + padLength s.WSEL s.IN_LEN.toNat := by
  obtain ⟨-, -, hmax, -, -⟩ := hp
  have hpad := padLength_le_sixteen s.WSEL s.IN_LEN.toNat
  rw [padBody_eq, setOutLen_OUT_LEN, length_pad, length_message, BitVec.toNat_ofNat, Nat.mod_eq_of_lt (by omega)]

/-- PAD that ends well has changed OUT, OUT_LEN, PHASE and two flags, and nothing else. -/
theorem okEnd_padBody_eq (s : State) :
    okEnd (padBody s) = { s with
      OUT := s.OUT.putBytes 0 (pad s.WSEL (message s))
      OUT_LEN := BitVec.ofNat 32 (pad s.WSEL (message s)).length
      PHASE := .IDLE
      STATUS := { s.STATUS with BUSY := false, DONE := true } } := by
  rw [padBody_eq, setOutLen_memWrite_output, okEnd]

/-- On a keyed engine and a message that fits, PAD runs its pseudocode and ends well. -/
theorem exec_pad_of_in_range {s : State} (hk : s.STATUS.KEYED = true)
    (hlen : s.IN_LEN.toNat ≤ s.platform.IN_MAX) : exec .pad s = .next (okEnd (padBody s)) :=
  exec_of_check_none (i := .pad) (checkMessage_of_in_range hk hlen)

/-- After PAD, OUT reads as if the padded message had just been written. -/
theorem byteAt_okEnd_padBody (s : State) (a : Nat) :
    byteAt (okEnd (padBody s)) .output a = byteAt (memWrite .output 0 (pad s.WSEL (message s)) s) .output a := by
  rw [padBody_eq, byteAt_okEnd, byteAt_setOutLen]

/-- PAD writes the message to the start of OUT. -/
theorem byteAt_okEnd_padBody_message {s : State} {a : Nat} (ha : a < s.IN_LEN.toNat) :
    byteAt (okEnd (padBody s)) .output a = byteAt s .input a := by
  have hin : a < (message s).length := by rwa [length_message]
  rw [byteAt_okEnd_padBody, byteAt_memWrite_output_of_lt (by rw [length_pad]; omega), getD_pad_of_lt _ hin,
    getD_message ha]

/-- PAD writes the filler behind the message. -/
theorem toNat_byteAt_okEnd_padBody_filler {s : State} {a : Nat} (ha : s.IN_LEN.toNat ≤ a)
    (hend : a < s.IN_LEN.toNat + padLength s.WSEL s.IN_LEN.toNat) :
    (byteAt (okEnd (padBody s)) .output a).toNat = padLength s.WSEL s.IN_LEN.toNat := by
  rw [← length_message] at ha hend ⊢
  rw [byteAt_okEnd_padBody, byteAt_memWrite_output_of_lt (by rwa [length_pad]), getD_pad_of_ge _ ha hend,
    toNat_fillerByte]

/-- PAD leaves the bytes of OUT behind the filler alone. -/
theorem byteAt_okEnd_padBody_behind {s : State} {a : Nat}
    (ha : s.IN_LEN.toNat + padLength s.WSEL s.IN_LEN.toNat ≤ a) :
    byteAt (okEnd (padBody s)) .output a = byteAt s .output a := by
  rw [byteAt_okEnd_padBody, byteAt_memWrite_output_of_ge (by rwa [length_pad, length_message])]

/-- The `OUT_LEN` bytes PAD leaves in OUT are the padded message. -/
theorem memRead_okEnd_padBody {s : State} (hp : s.platform.wf) (hlen : s.IN_LEN.toNat ≤ s.platform.IN_MAX) :
    memRead (okEnd (padBody s)) .output 0 (okEnd (padBody s)).OUT_LEN.toNat = pad s.WSEL (message s) := by
  have hout : (okEnd (padBody s)).OUT_LEN.toNat = (pad s.WSEL (message s)).length := by
    rw [okEnd_OUT_LEN, toNat_OUT_LEN_padBody hp hlen, length_pad, length_message]
  rw [hout, memRead_congr fun i _ => byteAt_okEnd_padBody s (0 + i), memRead_memWrite_output]

/-- Settles O36: PAD leaves the padded message in OUT, which unpad takes back; an aligned message has a whole block of
filler. -/
theorem unpadRestoresPaddedMessage : Obligations.UnpadRestoresPaddedMessage := by
  refine ⟨unpad_pad, fun s hp hk hlen => ⟨_, exec_pad_of_in_range hk hlen, ?_, fun haligned => ?_⟩⟩
  · rw [memRead_okEnd_padBody hp hlen, unpad_pad]
    rfl
  · rw [← padLength_eq_blockSize_iff] at haligned
    rw [← haligned]
    exact ⟨toNat_OUT_LEN_padBody hp hlen, fun a => toNat_byteAt_okEnd_padBody_filler⟩

/-- Settles O39: decoding by format Z, the three ends, and OUT byte by byte. -/
theorem padCommandWritesPaddedMessage : Obligations.PadCommandWritesPaddedMessage := by
  refine ⟨by decide, fun _ hopc hfield => endsIllegal_of_nonzero_fieldZ hopc (by decide) hfield,
    fun s => ⟨fun hp hk hlen => ?_, fun hk => ?_, fun hk hlen => ?_⟩⟩
  · exact ⟨_, padLength s.WSEL s.IN_LEN.toNat, exec_pad_of_in_range hk hlen, rfl, okEnd_padBody_eq s,
      toNat_OUT_LEN_padBody hp hlen, fun _ => byteAt_okEnd_padBody_message,
      fun _ => toNat_byteAt_okEnd_padBody_filler, fun _ => byteAt_okEnd_padBody_behind⟩
  · exact exec_of_check_some (i := .pad) (checkMessage_of_not_keyed hk)
  · exact exec_of_check_some (i := .pad) (checkMessage_of_too_long hk hlen)

/-! ### UNPAD (R203) -/

theorem unpadBody_eq (s : State) :
    unpadBody s =
      setPadnv (unpad (message s)).2 (setOutLen (unpad (message s)).1.length (memWrite .output 0 (message s) s)) := rfl

/-- A stripped message is no longer than IN_LEN, so its length fits OUT_LEN. -/
theorem toNat_OUT_LEN_unpadBody (s : State) : (unpadBody s).OUT_LEN.toNat = (unpad (message s)).1.length := by
  have hle := length_unpad_le (message s)
  have hlen := s.IN_LEN.isLt
  rw [length_message] at hle
  rw [unpadBody_eq, setPadnv_OUT_LEN, setOutLen_OUT_LEN, BitVec.toNat_ofNat, Nat.mod_eq_of_lt (by omega)]

/-- UNPAD that ends well has changed OUT, OUT_LEN, PHASE and the three flags, and nothing else. -/
theorem okEnd_unpadBody_eq (s : State) :
    okEnd (unpadBody s) = { s with
      OUT := s.OUT.putBytes 0 (message s)
      OUT_LEN := BitVec.ofNat 32 (unpad (message s)).1.length
      PHASE := .IDLE
      STATUS := { s.STATUS with BUSY := false, DONE := true, PADNV := (unpad (message s)).2 } } := by
  rw [unpadBody_eq, setOutLen_memWrite_output, setPadnv, okEnd]

/-- On a keyed engine and an input that fits, UNPAD runs its pseudocode and ends well. -/
theorem exec_unpad_of_in_range {s : State} (hk : s.STATUS.KEYED = true)
    (hlen : s.IN_LEN.toNat ≤ s.platform.IN_MAX) : exec .unpad s = .next (okEnd (unpadBody s)) :=
  exec_of_check_none (i := .unpad) (checkMessage_of_in_range hk hlen)

/-- After UNPAD, OUT reads as if the whole input had just been written. -/
theorem byteAt_okEnd_unpadBody (s : State) (a : Nat) :
    byteAt (okEnd (unpadBody s)) .output a = byteAt (memWrite .output 0 (message s) s) .output a := by
  rw [unpadBody_eq, byteAt_okEnd, byteAt_setPadnv, byteAt_setOutLen]

/-- UNPAD copies the whole input to the start of OUT, stripped bytes included. -/
theorem byteAt_okEnd_unpadBody_message {s : State} {a : Nat} (ha : a < s.IN_LEN.toNat) :
    byteAt (okEnd (unpadBody s)) .output a = byteAt s .input a := by
  rw [byteAt_okEnd_unpadBody, byteAt_memWrite_output_of_lt (by rwa [length_message]), getD_message ha]

/-- UNPAD leaves the bytes of OUT behind the input's length alone. -/
theorem byteAt_okEnd_unpadBody_behind {s : State} {a : Nat} (ha : s.IN_LEN.toNat ≤ a) :
    byteAt (okEnd (unpadBody s)) .output a = byteAt s .output a := by
  rw [byteAt_okEnd_unpadBody, byteAt_memWrite_output_of_ge (by rwa [length_message])]

/-- Settles O40: decoding by format Z, the three ends, and OUT byte by byte. -/
theorem unpadCommandCopiesAndMeasures : Obligations.UnpadCommandCopiesAndMeasures := by
  refine ⟨by decide, fun _ hopc hfield => endsIllegal_of_nonzero_fieldZ hopc (by decide) hfield,
    fun s => ⟨fun hk hlen => ?_, fun hk => ?_, fun hk hlen => ?_⟩⟩
  · exact ⟨_, exec_unpad_of_in_range hk hlen, okEnd_unpadBody_eq s, toNat_OUT_LEN_unpadBody s,
      fun _ => byteAt_okEnd_unpadBody_message, fun _ => byteAt_okEnd_unpadBody_behind⟩
  · exact exec_of_check_some (i := .unpad) (checkMessage_of_not_keyed hk)
  · exact exec_of_check_some (i := .unpad) (checkMessage_of_too_long hk hlen)

end Sys2Proof.Proofs

/-! PROOFS. Byte sequences as blocks, and the blocks of the padded message (spec 20_memory R63, 44_cbc R226). -/

namespace Sys2Proof.Proofs

open Sys2Proof Sys2Proof.Machine

/-! ### The bytes of a pair (20_memory R63) -/

theorem fitsPair_pairOfBytes {w : Width} {b : List Byte} (hb : b.length = blockSize w) :
    FitsPair w (pairOfBytes w b) := by
  rw [blockSize_eq_add] at hb
  exact ⟨fits_bytesToWord (by rw [List.length_take]; omega), fits_bytesToWord (by rw [List.length_drop]; omega)⟩

theorem bytesOfPair_pairOfBytes {w : Width} {b : List Byte} (hb : b.length = blockSize w) :
    bytesOfPair w (pairOfBytes w b).1 (pairOfBytes w b).2 = b := by
  rw [blockSize_eq_add] at hb
  rw [bytesOfPair, pairOfBytes, wordToBytes_bytesToWord (by rw [List.length_take]; omega),
    wordToBytes_bytesToWord (by rw [List.length_drop]; omega), List.take_append_drop]

theorem pairOfBytes_bytesOfPair {w : Width} {p : Word × Word} (hp : FitsPair w p) :
    pairOfBytes w (bytesOfPair w p.1 p.2) = p := by
  have hlen := length_wordToBytes w p.1
  rw [pairOfBytes, bytesOfPair, List.take_left' hlen, List.drop_left' hlen, bytesToWord_wordToBytes hp.1,
    bytesToWord_wordToBytes hp.2]

/-! ### Blocks of a byte sequence -/

/-- Block `k` of a byte sequence. -/
def block (w : Width) (b : List Byte) (k : Nat) : List Byte := (b.drop (k * blockSize w)).take (blockSize w)

theorem length_block {w : Width} {b : List Byte} {k : Nat} (h : (k + 1) * blockSize w ≤ b.length) :
    (block w b k).length = blockSize w := by
  rw [Nat.succ_mul] at h
  rw [block, List.length_take, List.length_drop]
  omega

theorem getD_block (w : Width) (b : List Byte) (k : Nat) {j : Nat} (hj : j < blockSize w) :
    (block w b k).getD j 0 = b.getD (k * blockSize w + j) 0 := by
  simp [block, List.getD, List.getElem?_drop, hj]

theorem take_succ_blocks (w : Width) (b : List Byte) (k : Nat) :
    b.take ((k + 1) * blockSize w) = b.take (k * blockSize w) ++ block w b k := by
  rw [Nat.succ_mul, List.take_add, block]

/-- A block read on its own is the block of a longer read from the start of the buffer. -/
theorem memRead_block {s : State} (w : Width) (b : Buf) {k n : Nat} (h : (k + 1) * blockSize w ≤ n) :
    memRead s b (k * blockSize w) (blockSize w) = block w (memRead s b 0 n) k := by
  obtain ⟨m, rfl⟩ := Nat.exists_eq_add_of_le h
  rw [block, Nat.succ_mul, Nat.add_assoc, memRead_add, List.drop_left' (length_memRead ..), memRead_add,
    List.take_left' (length_memRead ..), Nat.zero_add]

/-- The bytes of the pairs `f 0`, ..., `f (n-1)`, one block behind the other. -/
def pairsToBytes (w : Width) (f : Nat → Word × Word) : Nat → List Byte
  | 0 => []
  | n + 1 => pairsToBytes w f n ++ bytesOfPair w (f n).1 (f n).2

@[simp] theorem length_pairsToBytes (w : Width) (f : Nat → Word × Word) (n : Nat) :
    (pairsToBytes w f n).length = n * blockSize w := by
  induction n with
  | zero => rw [pairsToBytes, List.length_nil, Nat.zero_mul]
  | succ n ih => rw [pairsToBytes, List.length_append, ih, length_bytesOfPair, Nat.succ_mul]

theorem block_pairsToBytes (w : Width) (f : Nat → Word × Word) {k n : Nat} (hk : k < n) :
    block w (pairsToBytes w f n) k = bytesOfPair w (f k).1 (f k).2 := by
  induction n with
  | zero => exact absurd hk (Nat.not_lt_zero k)
  | succ n ih =>
    have hlen := length_pairsToBytes w f n
    rcases Nat.lt_succ_iff_lt_or_eq.mp hk with hlt | rfl
    · have hin : k * blockSize w + blockSize w ≤ n * blockSize w := by
        rw [← Nat.succ_mul]; exact Nat.mul_le_mul_right _ hlt
      rw [← ih hlt, block, block, pairsToBytes, List.drop_append_of_le_length (by omega),
        List.take_append_of_le_length (by rw [List.length_drop]; omega)]
    · rw [block, pairsToBytes, List.drop_left' hlen, List.take_of_length_le (length_bytesOfPair ..).le]

theorem pairsToBytes_congr {w : Width} {f g : Nat → Word × Word} {n : Nat} (h : ∀ k, k < n → f k = g k) :
    pairsToBytes w f n = pairsToBytes w g n := by
  induction n with
  | zero => rfl
  | succ n ih => rw [pairsToBytes, pairsToBytes, ih fun k hk => h k (by omega), h n (by omega)]

/-- A byte sequence taken block by block as pairs, and each pair written out, gives the sequence back. -/
theorem pairsToBytes_of_blocks {w : Width} {f : Nat → Word × Word} {b : List Byte} {n : Nat}
    (hlen : n * blockSize w ≤ b.length) (hf : ∀ k, k < n → f k = pairOfBytes w (block w b k)) :
    pairsToBytes w f n = b.take (n * blockSize w) := by
  induction n with
  | zero => rw [pairsToBytes, Nat.zero_mul, List.take_zero]
  | succ n ih =>
    have hle := (Nat.mul_le_mul_right (blockSize w) (Nat.le_succ n)).trans hlen
    rw [pairsToBytes, ih hle fun k hk => hf k (by omega), hf n (by omega), bytesOfPair_pairOfBytes (length_block hlen),
      take_succ_blocks]

/-! ### The padded message (R226) -/

theorem length_pad_message (s : State) :
    (pad s.WSEL (message s)).length = encBlocks s * blockSize s.WSEL := by
  rw [length_pad, length_message, encBlocks, Nat.div_mul_cancel (Nat.dvd_of_mod_eq_zero (add_padLength_mod ..))]

/-- `PaddedByte(i)` is byte `i` of the padded message. -/
theorem paddedByte_eq_getD_pad {s : State} {i : Nat} (hi : i < (pad s.WSEL (message s)).length) :
    paddedByte s i = (pad s.WSEL (message s)).getD i 0 := by
  have hlen := length_message s
  rw [paddedByte]
  split
  case isTrue hin => rw [getD_pad_of_lt _ (by omega), getD_message hin]
  case isFalse hout => rw [getD_pad_of_ge _ (by omega) (by rwa [length_pad] at hi), hlen]

theorem loadPaddedPair_eq {s : State} {k : Nat} (hk : k < encBlocks s) :
    loadPaddedPair s k = pairOfBytes s.WSEL (block s.WSEL (pad s.WSEL (message s)) k) := by
  have hin : (k + 1) * blockSize s.WSEL ≤ (pad s.WSEL (message s)).length := by
    rw [length_pad_message]; exact Nat.mul_le_mul_right _ hk
  rw [loadPaddedPair]
  congr 1
  refine List.ext_getElem (by rw [length_block hin, List.length_map, List.length_range]) fun j hj hj' => ?_
  rw [length_block hin] at hj'
  rw [Nat.succ_mul] at hin
  rw [List.getElem_map, List.getElem_range, paddedByte_eq_getD_pad (by omega), ← List.getD_eq_getElem _ 0,
    getD_block _ _ _ hj']

/-- Settles O41: the two agree byte by byte. -/
theorem paddedPairIsBlockOfPaddedMessage : Obligations.PaddedPairIsBlockOfPaddedMessage :=
  fun _ _ hk => loadPaddedPair_eq hk

/-- Written out, the pairs ENC reads are the padded message. -/
theorem pairsToBytes_loadPaddedPair (s : State) :
    pairsToBytes s.WSEL (loadPaddedPair s) (encBlocks s) = pad s.WSEL (message s) := by
  have hlen := length_pad_message s
  rw [pairsToBytes_of_blocks hlen.ge fun k => loadPaddedPair_eq, ← hlen, List.take_length]

end Sys2Proof.Proofs

/-! PROOFS. The command DEC (spec 44_cbc R221, R223). -/

namespace Sys2Proof.Proofs

open Sys2Proof Sys2Proof.Machine

/-! ### The checks of DEC (R223, 60_exceptions R287) -/

theorem validCtLen_iff (w : Width) (len : Nat) :
    validCtLen w len = true ↔ len % blockSize w = 0 ∧ 2 * blockSize w ≤ len := by
  simp only [validCtLen, Bool.and_eq_true, decide_eq_true_eq]
  rcases blockSize_cases w with h | h | h <;> rw [h] <;> omega

theorem checkDec_of_not_keyed {s : State} (hk : s.STATUS.KEYED = false) : checkDec s = some .E_STATE := by
  simp [checkDec, notKeyed, hk]

theorem checkDec_of_too_long {s : State} (hk : s.STATUS.KEYED = true)
    (hlen : s.IN_LEN.toNat > s.platform.IN_MAX) : checkDec s = some .E_RANGE := by
  simp [checkDec, notKeyed, inLenTooLong, hk, hlen]

/-- With a key and a length in range, the ciphertext length decides. -/
theorem checkDec_of_in_range {s : State} (hk : s.STATUS.KEYED = true) (hlen : s.IN_LEN.toNat ≤ s.platform.IN_MAX) :
    checkDec s = if validCtLen s.WSEL s.IN_LEN.toNat then none else some .E_CTLEN := by
  cases hvalid : validCtLen s.WSEL s.IN_LEN.toNat <;>
    simp [checkDec, notKeyed, inLenTooLong, hk, Nat.not_lt.mpr hlen, hvalid]

theorem checkDec_of_valid {s : State} (hk : s.STATUS.KEYED = true) (hlen : s.IN_LEN.toNat ≤ s.platform.IN_MAX)
    (hmod : s.IN_LEN.toNat % blockSize s.WSEL = 0) (hmin : 2 * blockSize s.WSEL ≤ s.IN_LEN.toNat) :
    checkDec s = none := by
  rw [checkDec_of_in_range hk hlen, if_pos ((validCtLen_iff ..).mpr ⟨hmod, hmin⟩)]

theorem checkDec_of_invalid {s : State} (hk : s.STATUS.KEYED = true) (hlen : s.IN_LEN.toNat ≤ s.platform.IN_MAX)
    (h : s.IN_LEN.toNat % blockSize s.WSEL ≠ 0 ∨ s.IN_LEN.toNat < 2 * blockSize s.WSEL) :
    checkDec s = some .E_CTLEN := by
  rw [checkDec_of_in_range hk hlen, if_neg (by rw [validCtLen_iff]; omega)]

/-! ### The block loop -/

/-- Ciphertext pair `k` of IN; pair 0 is the encrypted IV. -/
def inPair (s : State) (k : Nat) : Word × Word := loadPair s .input (k * blockSize s.WSEL)

/-- The chaining value with which DEC meets data block `k`: the recovered IV, then the ciphertext pair before. -/
def decChain (s : State) : Nat → Word × Word
  | 0 => decryptPair s (inPair s 0)
  | k + 1 => inPair s (k + 1)

/-- The plaintext pair of data block `k`, from ciphertext pair `k + 1`. -/
def plainPair (s : State) (k : Nat) : Word × Word :=
  xorPair (decryptPair s (inPair s (k + 1))) (decChain s k)

/-- The state in which `n` passes of DEC's block loop have been made. -/
def decProgress (s : State) (n : Nat) : State :=
  { s with
    OUT := s.OUT.putBytes 0 (pairsToBytes s.WSEL (plainPair s) n)
    X := (decryptPair s (inPair s n)).1
    Y := (decryptPair s (inPair s n)).2
    CV0 := (decChain s n).1
    CV1 := (decChain s n).2
    BI := BitVec.ofNat 32 (n + 1) }

/-- A run stored behind a run is one longer run. -/
theorem putBytes_append (m : Memory) (o : Nat) (xs ys : List Byte) :
    m.putBytes o (xs ++ ys) = (m.putBytes o xs).putBytes (o + xs.length) ys := by
  induction xs generalizing m o with
  | nil => rfl
  | cons x xs ih =>
    rw [List.cons_append, Memory.putBytes, Memory.putBytes, ih, List.length_cons, Nat.add_right_comm, Nat.add_assoc]

/-- Storing pair `n` behind the pairs before it. -/
theorem putBytes_pairsToBytes_succ (m : Memory) (w : Width) (f : Nat → Word × Word) (n : Nat) :
    m.putBytes 0 (pairsToBytes w f (n + 1)) =
      (m.putBytes 0 (pairsToBytes w f n)).putBytes (n * blockSize w) (bytesOfPair w (f n).1 (f n).2) := by
  rw [pairsToBytes, putBytes_append, length_pairsToBytes, Nat.zero_add]

theorem recoverIv_eq_decProgress (s : State) : recoverIv s = decProgress s 0 := by
  rw [recoverIv, decProgress, decChain, inPair, Nat.zero_mul]
  rfl

/-- One pass reads IN and the engine, which no pass has changed; the block index counts the passes, and 32 bits hold
it. -/
theorem decBlock_decProgress {s : State} {n : Nat} (hn : n + 1 < 2 ^ 32) :
    decBlock (decProgress s n) = decProgress s (n + 1) := by
  have hBI : (decProgress s n).BI.toNat = n + 1 := by
    rw [decProgress, BitVec.toNat_ofNat, Nat.mod_eq_of_lt hn]
  have hload (off : Nat) : loadPair (decProgress s n) .input off = loadPair s .input off := rfl
  have hdec (p : Word × Word) : decryptPair (decProgress s n) p = decryptPair s p :=
    decryptPair_congr (s := decProgress s n) (t := s) rfl rfl (fun _ _ => rfl) p
  have hnext : BitVec.ofNat 32 (n + 1 + 1) = BitVec.ofNat 32 (n + 1) + 1 := BitVec.ofNat_add ..
  rw [decBlock, hBI, hload, hdec, Nat.add_sub_cancel]
  conv_rhs => rw [decProgress, putBytes_pairsToBytes_succ, hnext]
  rfl

/-- The passes of DEC's block loop, counted. -/
theorem decBlock_iterate {s : State} {n : Nat} (hn : n < 2 ^ 32) :
    decBlock^[n] (recoverIv s) = decProgress s n := by
  induction n with
  | zero => exact recoverIv_eq_decProgress s
  | succ n ih => rw [Function.iterate_succ_apply', ih (by omega), decBlock_decProgress hn]

/-! ### What DEC leaves -/

/-- The bytes DEC writes to OUT, the padding with them. -/
def plainBytes (s : State) : List Byte := pairsToBytes s.WSEL (plainPair s) (decBlocks s)

theorem length_plainBytes (s : State) : (plainBytes s).length = decBlocks s * blockSize s.WSEL :=
  length_pairsToBytes ..

theorem decBlocks_lt (s : State) : decBlocks s < 2 ^ 32 :=
  calc decBlocks s ≤ s.IN_LEN.toNat / blockSize s.WSEL := Nat.sub_le _ _
    _ ≤ s.IN_LEN.toNat := Nat.div_le_self _ _
    _ < 2 ^ 32 := s.IN_LEN.isLt

/-- The bytes of OUT that DEC strips are those its passes have written. -/
theorem memRead_decProgress (s : State) :
    memRead (decProgress s (decBlocks s)) .output 0 (decBlocks s * blockSize s.WSEL) = plainBytes s := by
  rw [← length_plainBytes]
  exact memRead_memWrite_output (plainBytes s) s

/-- DEC that ends well has changed its destinations, the counters RC and BI, PHASE and the three flags, and nothing
else. -/
theorem okEnd_decBody_eq (s : State) :
    okEnd (decBody s) = { s with
      OUT := s.OUT.putBytes 0 (plainBytes s)
      OUT_LEN := BitVec.ofNat 32 (unpad (plainBytes s)).1.length
      X := (decryptPair s (inPair s (decBlocks s))).1
      Y := (decryptPair s (inPair s (decBlocks s))).2
      CV0 := (decChain s (decBlocks s)).1
      CV1 := (decChain s (decBlocks s)).2
      RC := 0
      BI := BitVec.ofNat 32 (decBlocks s + 1)
      PHASE := .IDLE
      STATUS := { s.STATUS with BUSY := false, DONE := true, PADNV := (unpad (plainBytes s)).2 } } := by
  rw [decBody, decBlock_iterate (decBlocks_lt s), stripOut, memRead_decProgress]
  rfl

/-- After DEC, OUT reads as if the plaintext blocks had just been written. -/
theorem byteAt_okEnd_decBody (s : State) (a : Nat) :
    byteAt (okEnd (decBody s)) .output a = byteAt (memWrite .output 0 (plainBytes s) s) .output a := by
  rw [okEnd_decBody_eq]
  rfl

theorem memRead_okEnd_decBody (s : State) :
    memRead (okEnd (decBody s)) .output 0 (decBlocks s * blockSize s.WSEL) = plainBytes s := by
  rw [memRead_congr fun i _ => byteAt_okEnd_decBody s (0 + i), ← length_plainBytes, memRead_memWrite_output]

/-- DEC writes plaintext pair `k` to block `k` of OUT. -/
theorem byteAt_okEnd_decBody_block {s : State} {k j : Nat} (hk : k < decBlocks s) (hj : j < blockSize s.WSEL) :
    byteAt (okEnd (decBody s)) .output (k * blockSize s.WSEL + j) =
      (bytesOfPair s.WSEL (plainPair s k).1 (plainPair s k).2).getD j 0 := by
  have hin : (k + 1) * blockSize s.WSEL ≤ (plainBytes s).length := by
    rw [length_plainBytes]; exact Nat.mul_le_mul_right _ hk
  rw [Nat.succ_mul] at hin
  rw [byteAt_okEnd_decBody, byteAt_memWrite_output_of_lt (by omega), ← getD_block _ _ _ hj, plainBytes,
    block_pairsToBytes _ _ hk]

/-- DEC leaves the bytes of OUT behind the plaintext blocks alone. -/
theorem byteAt_okEnd_decBody_behind {s : State} {a : Nat} (ha : decBlocks s * blockSize s.WSEL ≤ a) :
    byteAt (okEnd (decBody s)) .output a = byteAt s .output a := by
  rw [byteAt_okEnd_decBody, byteAt_memWrite_output_of_ge (by rwa [length_plainBytes])]

/-- What is stripped is no longer than IN_LEN, so its length fits OUT_LEN. -/
theorem toNat_OUT_LEN_decBody (s : State) :
    (okEnd (decBody s)).OUT_LEN.toNat = (unpad (plainBytes s)).1.length := by
  have hlen := s.IN_LEN.isLt
  have hle : (unpad (plainBytes s)).1.length ≤ s.IN_LEN.toNat :=
    calc _ ≤ decBlocks s * blockSize s.WSEL := length_plainBytes s ▸ length_unpad_le (plainBytes s)
      _ ≤ s.IN_LEN.toNat / blockSize s.WSEL * blockSize s.WSEL := Nat.mul_le_mul_right _ (Nat.sub_le _ _)
      _ ≤ s.IN_LEN.toNat := Nat.div_mul_le_self _ _
  rw [okEnd_decBody_eq, BitVec.toNat_ofNat, Nat.mod_eq_of_lt (by omega)]

/-- A ciphertext of at least two blocks has a data block. -/
theorem decBlocks_pos {s : State} (hmin : 2 * blockSize s.WSEL ≤ s.IN_LEN.toNat) : 1 ≤ decBlocks s := by
  have htwo := (Nat.le_div_iff_mul_le (blockSize_pos s.WSEL)).mpr hmin
  rw [decBlocks]
  omega

/-- With a key and a ciphertext length that passes the checks, DEC runs its pseudocode and ends well. -/
theorem exec_dec_of_valid {s : State} (hk : s.STATUS.KEYED = true) (hlen : s.IN_LEN.toNat ≤ s.platform.IN_MAX)
    (hmod : s.IN_LEN.toNat % blockSize s.WSEL = 0) (hmin : 2 * blockSize s.WSEL ≤ s.IN_LEN.toNat) :
    exec .dec s = .next (okEnd (decBody s)) :=
  exec_of_check_none (i := .dec) (checkDec_of_valid hk hlen hmod hmin)

/-- Behind the first data block the chaining value is the ciphertext pair before. -/
theorem decChain_of_pos {s : State} {k : Nat} (hk : 1 ≤ k) : decChain s k = inPair s k := by
  obtain ⟨k, rfl⟩ := Nat.exists_eq_add_of_le' hk
  rfl

/-- Settles O43: decoding by format Z, the four ends, and OUT block by block. -/
theorem decUnchainsBlocks : Obligations.DecUnchainsBlocks := by
  refine ⟨by decide, fun _ hopc hfield => endsIllegal_of_nonzero_fieldZ hopc (by decide) hfield,
    fun s => ⟨fun _ hk hlen hmod hmin => ?_, fun hk => ?_, fun hk hlen => ?_, fun hk hlen h => ?_⟩⟩
  · have hpos := decBlocks_pos hmin
    refine ⟨_, inPair s, decBlocks s, exec_dec_of_valid hk hlen hmod hmin, rfl, hpos, fun _ => rfl, fun j hj => ?_,
      fun k j hk2 hkN hj => ?_, fun a => byteAt_okEnd_decBody_behind, ?_, ?_⟩
    · have hfirst := byteAt_okEnd_decBody_block hpos hj
      rwa [Nat.zero_mul, Nat.zero_add] at hfirst
    · obtain ⟨k, rfl⟩ := Nat.exists_eq_add_of_le' hk2
      exact byteAt_okEnd_decBody_block (by omega) hj
    · rw [memRead_okEnd_decBody, toNat_OUT_LEN_decBody]
    · rw [memRead_okEnd_decBody, okEnd_decBody_eq, decChain_of_pos hpos]
  · exact exec_of_check_some (i := .dec) (checkDec_of_not_keyed hk)
  · exact exec_of_check_some (i := .dec) (checkDec_of_too_long hk hlen)
  · exact exec_of_check_some (i := .dec) (checkDec_of_invalid hk hlen h)

end Sys2Proof.Proofs

/-! PROOFS. The command ENC, and DEC of what it wrote (spec 44_cbc R220, R224). -/

namespace Sys2Proof.Proofs

open Sys2Proof Sys2Proof.Machine

/-! ### The block loop of ENC -/

/-- The chaining value with which ENC meets data block `k`: the clear IV, then the ciphertext pair before. -/
def encChain (s : State) : Nat → Word × Word
  | 0 => (s.CV0, s.CV1)
  | k + 1 => encryptPair s (xorPair (loadPaddedPair s k) (encChain s k))

/-- Ciphertext pair `k` of OUT; pair 0 is the encrypted IV. -/
def cipherPair (s : State) : Nat → Word × Word
  | 0 => encryptPair s (encChain s 0)
  | k + 1 => encChain s (k + 1)

/-- The state in which the IV has been emitted and `n` passes of ENC's block loop have been made. -/
def encProgress (s : State) (n : Nat) : State :=
  { s with
    OUT := s.OUT.putBytes 0 (pairsToBytes s.WSEL (cipherPair s) (n + 1))
    X := (cipherPair s n).1
    Y := (cipherPair s n).2
    CV0 := (encChain s n).1
    CV1 := (encChain s n).2
    BI := BitVec.ofNat 32 n }

theorem emitIv_eq_encProgress (s : State) : emitIv s = encProgress s 0 := rfl

/-- One pass reads IN, the engine and the chaining value; the block index counts the passes, and 32 bits hold it. -/
theorem encBlock_encProgress {s : State} {n : Nat} (hn : n < 2 ^ 32) :
    encBlock (encProgress s n) = encProgress s (n + 1) := by
  have hBI : (encProgress s n).BI.toNat = n := by
    rw [encProgress, BitVec.toNat_ofNat, Nat.mod_eq_of_lt hn]
  have hload : loadPaddedPair (encProgress s n) n = loadPaddedPair s n := rfl
  have henc (p : Word × Word) : encryptPair (encProgress s n) p = encryptPair s p :=
    encryptPair_congr (s := encProgress s n) (t := s) rfl rfl rfl p
  have hnext : BitVec.ofNat 32 (n + 1) = BitVec.ofNat 32 n + 1 := BitVec.ofNat_add ..
  rw [encBlock, hBI, hload, henc]
  conv_rhs => rw [encProgress, putBytes_pairsToBytes_succ, hnext]
  rfl

/-- The passes of ENC's block loop, counted. -/
theorem encBlock_iterate {s : State} {n : Nat} (hn : n ≤ 2 ^ 32) : encBlock^[n] (emitIv s) = encProgress s n := by
  induction n with
  | zero => exact emitIv_eq_encProgress s
  | succ n ih => rw [Function.iterate_succ_apply', ih (by omega), encBlock_encProgress hn]

/-- The passes leave the ciphertext pairs in OUT, block behind block. -/
theorem memRead_encProgress (s : State) (n : Nat) :
    memRead (encProgress s n) .output 0 ((n + 1) * blockSize s.WSEL) =
      pairsToBytes s.WSEL (cipherPair s) (n + 1) := by
  rw [← length_pairsToBytes s.WSEL (cipherPair s)]
  exact memRead_memWrite_output (pairsToBytes s.WSEL (cipherPair s) (n + 1)) s

/-! ### The IV -/

@[simp] theorem drawIv_WSEL (s : State) : (drawIv s).WSEL = s.WSEL := by simp [drawIv]
@[simp] theorem drawIv_R (s : State) : (drawIv s).R = s.R := by simp [drawIv]
@[simp] theorem drawIv_S (s : State) : (drawIv s).S = s.S := by simp [drawIv]
@[simp] theorem drawIv_IN_LEN (s : State) : (drawIv s).IN_LEN = s.IN_LEN := by simp [drawIv]
@[simp] theorem drawIv_platform (s : State) : (drawIv s).platform = s.platform := by simp [drawIv]

@[simp] theorem byteAt_drawIv (s : State) (b : Buf) (a : Nat) : byteAt (drawIv s) b a = byteAt s b a := by
  cases b <;> simp [drawIv, byteAt, State.buffer]

@[simp] theorem message_drawIv (s : State) : message (drawIv s) = message s := by
  rw [message, message, drawIv_IN_LEN]
  exact memRead_congr fun i _ => byteAt_drawIv s .input (0 + i)

@[simp] theorem encBlocks_drawIv (s : State) : encBlocks (drawIv s) = encBlocks s := by
  rw [encBlocks, encBlocks, drawIv_IN_LEN, drawIv_WSEL]

/-! ### Pairs that are words of the width -/

theorem fitsPair_xorPair {w : Width} {p q : Word × Word} (hp : FitsPair w p) (hq : FitsPair w q) :
    FitsPair w (xorPair p q) :=
  ⟨fits_xor hp.1 hq.1, fits_xor hp.2 hq.2⟩

theorem fitsPair_loadPaddedPair (s : State) (k : Nat) : FitsPair s.WSEL (loadPaddedPair s k) :=
  fitsPair_pairOfBytes (by rw [List.length_map, List.length_range])

/-- The chaining values are pairs of words from the IV on, which masking has made one. -/
theorem fitsPair_encChain_drawIv (s : State) (k : Nat) : FitsPair s.WSEL (encChain (drawIv s) k) := by
  cases k with
  | zero => exact ⟨fits_toWord _ _, fits_toWord _ _⟩
  | succ k => exact drawIv_WSEL s ▸ fitsPair_encryptPair (drawIv s) _

theorem fitsPair_cipherPair (s : State) (k : Nat) : FitsPair s.WSEL (cipherPair s k) := by
  cases k <;> exact fitsPair_encryptPair s _

theorem xorPair_xorPair_cancel (p q : Word × Word) : xorPair (xorPair p q) q = p := by
  simp [xorPair]

/-! ### What ENC leaves -/

theorem encBlocks_mul_blockSize (s : State) :
    encBlocks s * blockSize s.WSEL = s.IN_LEN.toNat + padLength s.WSEL s.IN_LEN.toNat := by
  rw [← length_pad_message, length_pad, length_message]

/-- The padded message has at least its filler. -/
theorem encBlocks_pos (s : State) : 1 ≤ encBlocks s := by
  have hpad := padLength_pos s.WSEL s.IN_LEN.toNat
  have hmul := encBlocks_mul_blockSize s
  rcases Nat.eq_zero_or_pos (encBlocks s) with hzero | hpos
  · rw [hzero] at hmul
    omega
  · exact hpos

/-- ENC lengthens the message by at most a block of filler and the IV's block. -/
theorem succ_encBlocks_mul_le (s : State) : (encBlocks s + 1) * blockSize s.WSEL ≤ s.IN_LEN.toNat + 32 := by
  have hmul := encBlocks_mul_blockSize s
  have hpad := padLength_le_sixteen s.WSEL s.IN_LEN.toNat
  rw [Nat.succ_mul]
  rcases blockSize_cases s.WSEL with h | h | h <;> omega

theorem encBlocks_le (s : State) : encBlocks s ≤ 2 ^ 32 := by
  have hlen := s.IN_LEN.isLt
  have hmul := succ_encBlocks_mul_le s
  rcases blockSize_cases s.WSEL with h | h | h <;> rw [h] at hmul <;> omega

/-- ENC that ends well has drawn the IV, made its passes, and set OUT_LEN, RC, PHASE and two flags. -/
theorem okEnd_encBody_eq (s : State) :
    okEnd (encBody s) = okEnd { encProgress (drawIv s) (encBlocks s) with
      OUT_LEN := BitVec.ofNat 32 ((encBlocks s + 1) * blockSize s.WSEL)
      RC := rcAfterEnc s } := by
  rw [encBody, encBlock_iterate (encBlocks_le s), setOutLen]

/-- The blocks of OUT that ENC has written are the ciphertext pairs. -/
theorem memRead_okEnd_encBody (s : State) :
    memRead (okEnd (encBody s)) .output 0 ((encBlocks s + 1) * blockSize s.WSEL) =
      pairsToBytes s.WSEL (cipherPair (drawIv s)) (encBlocks s + 1) := by
  have hread := memRead_encProgress (drawIv s) (encBlocks s)
  rw [drawIv_WSEL] at hread
  rw [okEnd_encBody_eq]
  exact hread

theorem toNat_OUT_LEN_encBody {s : State} (hp : s.platform.wf) (hlen : s.IN_LEN.toNat ≤ s.platform.IN_MAX) :
    (okEnd (encBody s)).OUT_LEN.toNat = (encBlocks s + 1) * blockSize s.WSEL := by
  obtain ⟨-, -, hmax, -, -⟩ := hp
  have hmul := succ_encBlocks_mul_le s
  rw [okEnd_encBody_eq, okEnd_OUT_LEN, BitVec.toNat_ofNat, Nat.mod_eq_of_lt (by omega)]

/-- On a keyed engine and a message that fits, ENC runs its pseudocode and ends well. -/
theorem exec_enc_of_in_range {s : State} (hk : s.STATUS.KEYED = true)
    (hlen : s.IN_LEN.toNat ≤ s.platform.IN_MAX) : exec .enc s = .next (okEnd (encBody s)) :=
  exec_of_check_none (i := .enc) (checkMessage_of_in_range hk hlen)

/-! ### The round trip (R224) -/

/-- The host has copied the ciphertext of `s` to IN of `u`, whose engine has the width, rounds and subkeys of `s`. -/
structure HoldsCiphertext (s u : State) : Prop where
  width : u.WSEL = s.WSEL
  rounds : u.R = s.R
  subkeys : u.S = s.S
  length : u.IN_LEN.toNat = (encBlocks s + 1) * blockSize s.WSEL
  bytes : memRead u .input 0 ((encBlocks s + 1) * blockSize s.WSEL) =
    pairsToBytes s.WSEL (cipherPair (drawIv s)) (encBlocks s + 1)

section RoundTrip

variable {s u : State} (h : HoldsCiphertext s u)
include h

/-- DEC reads the pairs that ENC has written. -/
theorem inPair_eq_cipherPair {k : Nat} (hk : k < encBlocks s + 1) : inPair u k = cipherPair (drawIv s) k := by
  have hfits := fitsPair_cipherPair (drawIv s) k
  rw [drawIv_WSEL] at hfits
  rw [inPair, loadPair, h.width, memRead_block s.WSEL .input (Nat.mul_le_mul_right _ hk), h.bytes,
    block_pairsToBytes _ _ hk, pairOfBytes_bytesOfPair hfits]

/-- The engine of the copy undoes the encryption of a pair of words. -/
theorem decryptPair_encryptPair_drawIv {p : Word × Word} (hp : FitsPair s.WSEL p) :
    decryptPair u (encryptPair (drawIv s) p) = p := by
  rw [encryptPair_congr (t := u) (by rw [drawIv_WSEL, h.width]) (by rw [drawIv_R, h.rounds])
    (by rw [drawIv_S, h.subkeys]), decryptPair_encryptPair (h.width ▸ hp)]

/-- DEC meets each data block with the chaining value that ENC met it with. -/
theorem decChain_eq_encChain {k : Nat} (hk : k < encBlocks s + 1) : decChain u k = encChain (drawIv s) k := by
  cases k with
  | zero =>
    rw [decChain, inPair_eq_cipherPair h hk]
    exact decryptPair_encryptPair_drawIv h (fitsPair_encChain_drawIv s 0)
  | succ k => exact inPair_eq_cipherPair h hk

/-- DEC's plaintext pairs are the pairs that ENC has read: decryption leaves the pair masked by the chaining value, and
the same chaining value takes the mask off. -/
theorem plainPair_eq_loadPaddedPair {k : Nat} (hk : k < encBlocks s) :
    plainPair u k = loadPaddedPair (drawIv s) k := by
  have hload := fitsPair_loadPaddedPair (drawIv s) k
  rw [drawIv_WSEL] at hload
  rw [plainPair, inPair_eq_cipherPair h (by omega), decChain_eq_encChain h (by omega), cipherPair, encChain,
    decryptPair_encryptPair_drawIv h (fitsPair_xorPair hload (fitsPair_encChain_drawIv s k)), xorPair_xorPair_cancel]

theorem decBlocks_eq_encBlocks : decBlocks u = encBlocks s := by
  rw [decBlocks, h.length, h.width, Nat.mul_div_cancel _ (blockSize_pos s.WSEL), Nat.add_sub_cancel]

/-- DEC writes the padded message. -/
theorem plainBytes_eq_pad_message : plainBytes u = pad s.WSEL (message s) := by
  have hpad := pairsToBytes_loadPaddedPair (drawIv s)
  rw [drawIv_WSEL, encBlocks_drawIv, message_drawIv] at hpad
  rw [plainBytes, decBlocks_eq_encBlocks h, h.width, ← hpad]
  exact pairsToBytes_congr fun k hk => plainPair_eq_loadPaddedPair h hk

/-- The ciphertext's length passes the checks of DEC. -/
theorem exec_dec_of_holdsCiphertext (hk : u.STATUS.KEYED = true) (hlen : s.IN_LEN.toNat + 32 ≤ u.platform.IN_MAX) :
    exec .dec u = .next (okEnd (decBody u)) := by
  have hmax := succ_encBlocks_mul_le s
  have hmin : 2 * blockSize s.WSEL ≤ (encBlocks s + 1) * blockSize s.WSEL :=
    Nat.mul_le_mul_right _ (Nat.succ_le_succ (encBlocks_pos s))
  rw [← h.length] at hmax hmin
  rw [← h.width] at hmin
  exact exec_dec_of_valid hk (by omega) (by rw [h.length, h.width, Nat.mul_mod_left]) hmin

end RoundTrip

/-- A buffer into which a run of bytes has been copied reads as the one it was copied from. -/
theorem memRead_of_copy {s u : State} {b c : Buf} {n : Nat} (h : ∀ o, o < n → byteAt u c o = byteAt s b o) :
    memRead u c 0 n = memRead s b 0 n :=
  List.map_congr_left fun i hi => by rw [Nat.zero_add]; exact h i (List.mem_range.mp hi)

/-- What `HoldsCiphertext` asks is what a copy of ENC's output on the same engine gives. -/
theorem holdsCiphertext_of_copy {s u : State} (hp : s.platform.wf) (hlen : s.IN_LEN.toNat ≤ s.platform.IN_MAX)
    (hwidth : u.WSEL = (okEnd (encBody s)).WSEL) (hrounds : u.R = (okEnd (encBody s)).R)
    (hsubkeys : u.S = (okEnd (encBody s)).S) (hulen : u.IN_LEN = (okEnd (encBody s)).OUT_LEN)
    (hcopy : ∀ o, o < (okEnd (encBody s)).OUT_LEN.toNat →
      byteAt u .input o = byteAt (okEnd (encBody s)) .output o) : HoldsCiphertext s u := by
  obtain ⟨-, hS, -, hW, hR, -⟩ := (engine_eq_iff ..).mp ((engine_okEnd _).trans (engine_encBody s))
  have hout := toNat_OUT_LEN_encBody hp hlen
  rw [hout] at hcopy
  exact ⟨hwidth.trans hW, hrounds.trans hR, hsubkeys.trans hS, hulen ▸ hout,
    (memRead_of_copy hcopy).trans (memRead_okEnd_encBody s)⟩

/-- DEC that has written a padded message ends with the message, its length and PADNV 0. -/
theorem okEnd_decBody_of_plainBytes_eq_pad {s u : State} (h : plainBytes u = pad s.WSEL (message s)) :
    (okEnd (decBody u)).OUT_LEN = s.IN_LEN ∧
    (∀ o, o < s.IN_LEN.toNat → byteAt (okEnd (decBody u)) .output o = byteAt s .input o) ∧
    (okEnd (decBody u)).STATUS.PADNV = false := by
  have hlen := length_message s
  refine ⟨?_, fun o ho => ?_, ?_⟩
  · rw [okEnd_decBody_eq, h, unpad_pad, hlen, BitVec.ofNat_toNat, BitVec.setWidth_eq]
  · rw [byteAt_okEnd_decBody, h, byteAt_memWrite_output_of_lt (by rw [length_pad]; omega),
      getD_pad_of_lt _ (by omega), getD_message ho]
  · rw [okEnd_decBody_eq, h, unpad_pad]

/-- Settles O44: DEC of the copied ciphertext writes the padded message, which unpad takes back. -/
theorem cbcRoundTrip : Obligations.CbcRoundTrip := by
  intro s hp hk hlen
  refine ⟨_, exec_enc_of_in_range hk (by omega), fun u hplatform huk hwidth hrounds hsubkeys hulen hcopy => ?_⟩
  have h := holdsCiphertext_of_copy hp (by omega) hwidth hrounds hsubkeys hulen hcopy
  obtain ⟨hOUT, hbytes, hPADNV⟩ := okEnd_decBody_of_plainBytes_eq_pad (plainBytes_eq_pad_message h)
  rw [okEnd_encBody_eq, okEnd_platform, encProgress, drawIv_platform] at hplatform
  exact ⟨_, exec_dec_of_holdsCiphertext h huk (by rwa [hplatform]), hOUT, hbytes, hPADNV, rfl,
    by rw [okEnd_decBody_eq]⟩

end Sys2Proof.Proofs

/-! PROOFS. The error end and CLR, and what each host access returns and does (spec 45_system R250, R253, R256 to
R259). -/

namespace Sys2Proof.Proofs

open Sys2Proof Sys2Proof.Machine

/-! ### The error end (R253) -/

/-- The DECODE step of a command whose check fails is the error end. -/
theorem decodeStep_of_check_some {s : State} {i : Instr} {e : ErrCode} (hi : decode s.OPR = .ok i)
    (hcheck : check i s = some e) : decodeStep s = errorEnd e s := by
  simp [decodeStep, hi, hcheck]

theorem seqStep_of_decode {s : State} (h : s.PHASE = .DECODE) : seqStep s = .next (decodeStep s) := by
  simp [seqStep, h]

/-- The error that STATUS reports. -/
def reportedError (s : State) : Bool × BitVec 4 := (s.STATUS.ERR, s.STATUS.ERRCODE)

theorem reportedError_eq_iff (s t : State) :
    reportedError t = reportedError s ↔ t.STATUS.ERR = s.STATUS.ERR ∧ t.STATUS.ERRCODE = s.STATUS.ERRCODE := by
  simp only [reportedError, Prod.mk.injEq]

/-- The pseudocode of a single-step command reports no error; UNPAD writes PADNV and CLR writes KEYED. -/
theorem reportedError_of_singleStepBody {i : Instr} {body : State → State} (h : singleStepBody i = some body)
    (s : State) : reportedError (body s) = reportedError s := by
  cases i <;> cases h <;> rfl

theorem reportedError_execRow {s t : State} (h : execRow s = .next t) : reportedError t = reportedError s := by
  unfold execRow at h
  split at h
  case h_1 => cases h
  case h_2 i hi =>
    split at h
    case h_1 body hbody =>
      cases h
      exact reportedError_of_singleStepBody hbody s
    case h_2 => cases h

/-- A step that ends a loop or goes on with it reports no error when neither branch does. -/
theorem reportedError_ite {c : Prop} [Decidable c] {s t u : State} (ht : reportedError t = reportedError s)
    (hu : reportedError u = reportedError s) : reportedError (if c then t else u) = reportedError s := by
  split
  · exact ht
  · exact hu

theorem reportedError_pairPreRow {s t : State} (h : pairPreRow s = .next t) : reportedError t = reportedError s := by
  unfold pairPreRow at h
  split at h <;> cases h <;> rfl

theorem reportedError_pairRoundRow {s t : State} (h : pairRoundRow s = .next t) :
    reportedError t = reportedError s := by
  unfold pairRoundRow at h
  split at h <;> cases h <;> exact reportedError_ite rfl rfl

theorem reportedError_pairPostRow {s t : State} (h : pairPostRow s = .next t) :
    reportedError t = reportedError s := by
  unfold pairPostRow at h
  split at h <;> cases h <;> rfl

theorem reportedError_ivRow (s : State) : reportedError (ivRow s) = reportedError s := by
  simp [reportedError, ivRow, drawIv]

/-- DECODE is the only phase whose step reports an error or clears one. -/
theorem reportedError_seqStep {s t : State} (hphase : s.PHASE ≠ .DECODE) (h : seqStep s = .next t) :
    reportedError t = reportedError s := by
  unfold seqStep at h
  cases hp : s.PHASE <;> simp only [hp] at h
  case DECODE => exact absurd hp hphase
  case EXEC => exact reportedError_execRow h
  case P_PRE => exact reportedError_pairPreRow h
  case P_ROUND => exact reportedError_pairRoundRow h
  case P_POST => exact reportedError_pairPostRow h
  all_goals cases h
  case E_IV => exact reportedError_ivRow s
  case E_ROUND => exact reportedError_ite rfl (reportedError_ite rfl rfl)
  case K_MIX | E_IVROUND | D_IVROUND | D_ROUND => exact reportedError_ite rfl rfl
  case IDLE | K_HASH | K_SPLIT | E_LOAD | D_IVLOAD | D_LOAD | D_UNPAD => rfl

/-- Settles O10: both views answer the error end of the failing check, and the rows of the other phases keep ERR and
ERRCODE. -/
theorem errorEndChangesStatusOnly : Obligations.ErrorEndChangesStatusOnly := by
  intro s i e hcheck
  have hexec : exec i s = .next (errorEnd e s) := exec_of_check_some hcheck
  refine ⟨hexec, fun hphase hi => ?_, fun r t hphase hstep => ?_⟩
  · rw [seqStep_of_decode hphase, decodeStep_of_check_some hi hcheck, hexec]
  · exact (reportedError_eq_iff r t).mp (reportedError_seqStep hphase hstep)

/-! ### CLR (R256) -/

/-- CLR has no check; its pseudocode and the successful end leave the reset state but for what R256 keeps, and of STATUS
the fields that acceptance has cleared already. -/
theorem exec_clr (s : State) :
    exec .clr s = .next { State.reset with
      HBUF := List.replicate s.platform.HLEN 0
      OPR := s.OPR
      STATUS := { s.STATUS with BUSY := false, KEYED := false, DONE := true }
      PWD_LEN := s.PWD_LEN, IN_LEN := s.IN_LEN, PWD := s.PWD, IN := s.IN, OUT := s.OUT
      platform := s.platform, turns := s.turns, readData := s.readData, rngAnswers := s.rngAnswers
      drawn := s.drawn, epoch := s.epoch } :=
  exec_of_check_none (i := .clr) rfl

/-- Settles O45: decoding by format Z, and CLR in a state whose ERR, ERRCODE and PADNV acceptance has cleared. -/
theorem clrLeavesResetState : Obligations.ClrLeavesResetState := by
  refine ⟨by decide, fun _ hopc hfield => endsIllegal_of_nonzero_fieldZ hopc (by decide) hfield,
    fun s herr hcode hpadnv => ?_⟩
  simp only [exec_clr, herr, hcode, hpadnv]

/-! ### Register reads (R257) -/

theorem readReg_status (s : State) : readReg 1 s = answer ((statusWord s.STATUS).setWidth 64) s := if_pos rfl

/-- A read of a register other than STATUS is refused while a command runs, and at any time when the register cannot be
read. -/
theorem readReg_of_refused {k : Nat} {s : State} (hk : k ≠ 1) (h : s.STATUS.BUSY = true ∨ regValue s k = none) :
    readReg k s = refuseRead s := by
  rw [readReg, if_neg hk]
  split
  · rfl
  · next hidle => rw [h.resolve_left hidle]

theorem readReg_of_idle {k : Nat} {s : State} {v : BitVec 64} (hidle : s.STATUS.BUSY = false) (hk : k ≠ 1)
    (hv : regValue s k = some v) : readReg k s = answer v s := by
  simp [readReg, hk, hidle, hv]

/-- CMD and the indices from 8 on hold nothing to read. -/
theorem regValue_eq_none {k : Nat} (s : State) (h : k = 0 ∨ 8 ≤ k) : regValue s k = none := by
  rcases h with rfl | h
  · rfl
  · obtain ⟨n, rfl⟩ := Nat.exists_eq_add_of_le' h
    rfl

/-- Settles O46: a read other than that of STATUS answers a value when the FCE is idle and the register has one, and is
refused otherwise. -/
theorem registerReadTable : Obligations.RegisterReadTable := by
  intro s k
  refine ⟨readReg_status s, fun hk h => readReg_of_refused hk (h.imp_right (regValue_eq_none s)), fun hidle => ?_⟩
  have hread {k : Nat} {v : BitVec 64} (hk : k ≠ 1) (hv : regValue s k = some v) : readReg k s = answer v s :=
    readReg_of_idle hidle hk hv
  exact ⟨hread (by decide) rfl, hread (by decide) rfl, hread (by decide) rfl, hread (by decide) rfl,
    hread (by decide) rfl, hread (by decide) rfl⟩

/-! ### Register writes (R250, R258) -/

/-- A 32-bit value that travels on the 64 lines of the port arrives whole. -/
theorem setWidth_32_setWidth_64 (x : BitVec 32) : (x.setWidth 64).setWidth 32 = x := by
  rw [BitVec.setWidth_setWidth_of_le _ (by decide), BitVec.setWidth_eq]

/-- CFG, OUT_LEN and the indices from 8 on take no write. -/
theorem writeReg_of_no_register {k : Nat} (v : BitVec 64) (s : State) (h : k = 2 ∨ k = 5 ∨ 8 ≤ k) :
    writeReg k v s = refuseAccess s := by
  rcases h with rfl | rfl | h
  · rfl
  · rfl
  · obtain ⟨n, rfl⟩ := Nat.exists_eq_add_of_le' h
    rfl

/-- While a command runs every write but that of STATUS is refused. -/
theorem writeReg_of_busy {k : Nat} (v : BitVec 64) {s : State} (hk : k ≠ 1) (hbusy : s.STATUS.BUSY = true) :
    writeReg k v s = refuseAccess s := by
  unfold writeReg
  split
  case h_2 => exact absurd rfl hk
  case h_7 => rfl
  all_goals exact if_pos hbusy

/-- Settles O47: CMD is accepted and the four writable registers are stored when the FCE is idle, STATUS takes bit 5 at
any time, and every other write is refused. -/
theorem registerWriteTable : Obligations.RegisterWriteTable := by
  intro s k x v
  refine ⟨fun hidle => ?_, writeReg_of_busy (k := 0) v (by decide), ?_, fun _ hk h => ?_, fun hidle => ?_⟩
  · simp only [hostAccess, writeReg, writeCmd, hidle, setWidth_32_setWidth_64]
    rfl
  · rw [hostAccess_writeReg_status]
    cases v.getLsbD 5 <;> simp
  · exact h.elim (writeReg_of_busy v hk) (writeReg_of_no_register v s)
  · simp [hostAccess, writeReg, hidle]

/-! ### Buffer accesses (R259) -/

theorem hostReads_eq_false_iff (b : Buf) : hostReads b = false ↔ b = .password := by
  cases b <;> simp [hostReads]

theorem hostWrites_eq_false_iff (b : Buf) : hostWrites b = false ↔ b = .output := by
  cases b <;> simp [hostWrites]

/-- A read is refused while a command runs, of PWD, and at or above the capacity; else it answers the byte. -/
theorem readByte_eq (b : Buf) (o : Nat) (s : State) :
    readByte b o s =
      if s.STATUS.BUSY = true ∨ b = .password ∨ capacity s.platform b ≤ o then refuseRead s
      else answer ((byteAt s b o).setWidth 64) s := by
  simp [readByte, hostReads_eq_false_iff, or_assoc]

/-- A write is refused while a command runs, of OUT, and at or above the capacity; else the byte is stored. -/
theorem writeByte_eq (b : Buf) (o : Nat) (x : Byte) (s : State) :
    writeByte b o x s =
      if s.STATUS.BUSY = true ∨ b = .output ∨ capacity s.platform b ≤ o then refuseAccess s
      else memWrite b o [x] s := by
  simp [writeByte, hostWrites_eq_false_iff, or_assoc]

/-- A stored byte reads back, and no other byte of any buffer changes. -/
theorem byteAt_memWrite_singleton (b : Buf) (o : Nat) (x : Byte) (s : State) (c : Buf) (a : Nat) :
    byteAt (memWrite b o [x] s) c a = if c = b ∧ a = o then x else byteAt s c a := by
  have hrun : (o ≤ a ∧ a < o + [x].length) ↔ a = o := by rw [List.length_singleton]; omega
  simp only [byteAt_memWrite, hrun]
  split
  · next h =>
    obtain ⟨-, rfl⟩ := h
    rw [Nat.sub_self]
    rfl
  · rfl

/-- A write to PWD or IN changes no other field. -/
theorem memWrite_eq_of_ne_output {b : Buf} (h : b ≠ .output) (o : Nat) (xs : List Byte) (s : State) :
    memWrite b o xs s = { s with PWD := (memWrite b o xs s).PWD, IN := (memWrite b o xs s).IN } := by
  cases b with
  | password => rfl
  | input => rfl
  | output => exact absurd rfl h

/-- Settles O48: each access is decided by the three conditions of its refusal, and a store is one byte of its
buffer. -/
theorem bufferAccessTable : Obligations.BufferAccessTable := by
  intro s b o x
  refine ⟨fun hidle hb ho => ?_, fun hidle hb ho => ?_, fun h => ?_, fun h => ?_⟩
  · have hstore : hostAccess (.writeByte b o x) s = memWrite b o [x] s := by
      rw [hostAccess, writeByte_eq, if_neg (by simp [hidle, hb, ho])]
    rw [hstore]
    refine ⟨?_, fun c a hother => ?_, memWrite_eq_of_ne_output hb o [x] s⟩
    · rw [byteAt_memWrite_singleton, if_pos ⟨rfl, rfl⟩]
    · rw [byteAt_memWrite_singleton, if_neg (by tauto)]
  · rw [hostAccess, readByte_eq, if_neg (by simp [hidle, hb, ho])]
    rfl
  · rw [hostAccess, readByte_eq, if_pos h]
    rfl
  · rw [hostAccess, writeByte_eq, if_pos h]
    rfl

end Sys2Proof.Proofs

/-! PROOFS. Of the checks that fail, the one of least code is reported (spec 60_exceptions R280 to R287). -/

namespace Sys2Proof.Proofs

open Sys2Proof Sys2Proof.Machine

/-! ### The first error of a list of checks -/

/-- A list of checks, each with its error, in increasing order of the codes. -/
def Ascending (checks : List (Bool × ErrCode)) : Prop :=
  checks.Pairwise fun c d => (errNumber c.2).toNat < (errNumber d.2).toNat

theorem firstError_eq_none_iff (checks : List (Bool × ErrCode)) :
    firstError checks = none ↔ ∀ e, (true, e) ∉ checks := by
  induction checks with
  | nil => simp
  | cons c rest ih =>
    obtain ⟨failed, d⟩ := c
    cases failed with
    | false => simp [ih]
    | true =>
      rw [firstError_cons_true]
      exact iff_of_false (Option.some_ne_none d) fun h => h d List.mem_cons_self

/-- In an ascending list the first check that fails is the failing check of least code. -/
theorem firstError_eq_some_iff {checks : List (Bool × ErrCode)} (hasc : Ascending checks) (e : ErrCode) :
    firstError checks = some e ↔
      (true, e) ∈ checks ∧ ∀ e', (errNumber e').toNat < (errNumber e).toNat → (true, e') ∉ checks := by
  induction checks with
  | nil => simp
  | cons c rest ih =>
    obtain ⟨failed, d⟩ := c
    obtain ⟨hhead, hrest⟩ := List.pairwise_cons.mp hasc
    cases failed with
    | false => simpa using ih hrest
    | true =>
      rw [firstError_cons_true, Option.some.injEq]
      constructor
      · rintro rfl
        refine ⟨List.mem_cons_self, fun e' hlt hmem => ?_⟩
        rcases List.mem_cons.mp hmem with heq | hmem
        · cases heq
          exact lt_irrefl _ hlt
        · exact lt_asymm hlt (hhead _ hmem)
      · rintro ⟨hmem, hleast⟩
        rcases List.mem_cons.mp hmem with heq | hmem
        · cases heq
          rfl
        · exact absurd List.mem_cons_self (hleast d (hhead _ hmem))

/-! ### The checks of each command -/

/-- `WSEL` is a field of two bits, of which only 3 is no width (R283). -/
theorem isNone_widthOfSel_iff {wsel : Nat} (h : wsel < 2 ^ 2) : (widthOfSel wsel).isNone = true ↔ wsel = 3 := by
  match wsel, h with
  | 0, _ | 1, _ | 2, _ | 3, _ => decide

theorem validCtLen_eq_false_iff (w : Width) (len : Nat) :
    validCtLen w len = false ↔ len % blockSize w ≠ 0 ∨ len < 2 * blockSize w := by
  rw [← Bool.not_eq_true, validCtLen_iff]
  omega

/-- Of the checks of the list, which stand in increasing order of the codes, exactly those fail that `Fails` says of the
command. -/
structure ListsFailures (s : State) (i : Instr) (checks : List (Bool × ErrCode)) : Prop where
  ascending : Ascending checks
  mem_iff : ∀ e, (true, e) ∈ checks ↔ Fails s i e

/-- The DECODE step reports the first error of such a list. -/
theorem check_eq_firstError {i : Instr} (hwf : WellFormed i = true) (s : State) :
    ∃ checks, check i s = firstError checks ∧ ListsFailures s i checks := by
  cases i
  case init wsel rounds klen =>
    simp only [WellFormed, Bool.and_eq_true, decide_eq_true_eq] at hwf
    obtain ⟨⟨hwsel, -⟩, -⟩ := hwf
    refine ⟨_, rfl, by simp [Ascending, errNumber], fun e => ?_⟩
    cases e <;> simp [Fails, failsState, failsConfig, failsRange, failsCtLen, isNone_widthOfSel_iff hwsel]
  case clr =>
    refine ⟨[], rfl, List.Pairwise.nil, fun e => ?_⟩
    cases e <;> simp [Fails, failsState, failsConfig, failsRange, failsCtLen]
  case encp | decp | rotl | rotr =>
    refine ⟨_, rfl, by simp [Ascending], fun e => ?_⟩
    cases e <;> simp [Fails, failsState, failsConfig, failsRange, failsCtLen, notKeyed]
  case enc | pad | unpad | ldp =>
    refine ⟨_, rfl, by simp [Ascending, errNumber], fun e => ?_⟩
    cases e <;> simp [Fails, failsState, failsConfig, failsRange, failsCtLen, notKeyed, inLenTooLong]
  case dec =>
    refine ⟨_, rfl, by simp [Ascending, errNumber], fun e => ?_⟩
    cases e <;> simp [Fails, failsState, failsConfig, failsRange, failsCtLen, notKeyed, inLenTooLong,
      validCtLen_eq_false_iff]
  case stp =>
    refine ⟨_, rfl, by simp [Ascending, errNumber], fun e => ?_⟩
    cases e <;> simp [Fails, failsState, failsConfig, failsRange, failsCtLen, notKeyed]

/-- Settles O11: the checks of a command stand in the order of the codes, so the first that fails is the one of least
code; the error end reports it. -/
theorem firstFailingCheckIsReported : Obligations.FirstFailingCheckIsReported := by
  refine ⟨fun v e => endsIllegal_of_decode_error, rfl, rfl, rfl, rfl, rfl, fun s i hwf => ?_⟩
  obtain ⟨checks, hcheck, hasc, hmem⟩ := check_eq_firstError hwf s
  refine ⟨fun e => ?_, fun e he => ⟨errorEnd e s, exec_of_check_some he, rfl, rfl⟩, ?_⟩
  · simp only [hcheck, firstError_eq_some_iff hasc, hmem]
  · simp only [hcheck, firstError_eq_none_iff, hmem]

end Sys2Proof.Proofs

/-! PROOFS. The reset input, the busy lock-out, and the bits of A and B above the width (spec 70_reset_and_hazards R310
to R319). -/

namespace Sys2Proof.Proofs

open Sys2Proof Sys2Proof.Machine

/-! ### The reset input (R310, R311) -/

/-- A reset turn is taken at once, whatever PHASE is. -/
theorem step_of_reset {s : State} {rest : List Turn} (h : s.turns = .reset :: rest) :
    step s = .next (resetInput { s with turns := rest }) := step_cons h

/-- Settles O54: the state a reset turn answers agrees with the reset state but for the model's own fields and the
length of HBUF, which is the platform's. -/
theorem resetInputTakesEffectAtOnce : Obligations.ResetInputTakesEffectAtOnce :=
  fun _ _ hturn => ⟨_, step_of_reset hturn, rfl, rfl, rfl, rfl, rfl, rfl, rfl, rfl, rfl, rfl, rfl, rfl, rfl, rfl,
    fun _ hi => tableGet_replicate 0 1 hi, fun _ hi => tableGet_replicate 0 1 hi,
    fun _ hi => tableGet_replicate 0 1 hi, rfl, rfl, rfl, rfl, rfl, rfl, rfl, rfl, rfl,
    statusWord_reset, cfgWord_eq_zero rfl rfl rfl⟩

/-! ### The host's own data -/

/-- Replace the host's own data: HERR and the port's last answer. -/
def withHostData (h : Bool) (d : BitVec 64) (s : State) : State :=
  { s with STATUS := { s.STATUS with HERR := h }, readData := d }

/-! ### Refusal of an access while a command runs (R314) -/

/-- What the port answers to an access that is refused: 0 to a read, and to a write nothing new. -/
def refusalAnswer (s : State) : HostAccess → BitVec 64
  | .readReg _ => 0
  | .readByte _ _ => 0
  | .writeReg _ _ => s.readData
  | .writeByte _ _ _ => s.readData

/-- While a command runs every access but those of STATUS is refused. -/
theorem hostAccess_of_busy {s : State} {a : HostAccess} (hbusy : s.STATUS.BUSY = true) (hread : a ≠ .readReg 1)
    (hwrite : ∀ v, a ≠ .writeReg 1 v) : hostAccess a s = withHostData true (refusalAnswer s a) s := by
  cases a with
  | readReg k =>
    have hk : k ≠ 1 := fun hk => hread (by rw [hk])
    exact readReg_of_refused hk (.inl hbusy)
  | writeReg k v =>
    have hk : k ≠ 1 := fun hk => hwrite v (by rw [hk])
    exact writeReg_of_busy v hk hbusy
  | readByte b off => exact (readByte_eq b off s).trans (if_pos (.inl hbusy))
  | writeByte b off x => exact (writeByte_eq b off x s).trans (if_pos (.inl hbusy))

/-- While a command runs no access changes anything but the host's own data. -/
theorem hostAccess_of_busy_changes_hostData {s : State} (a : HostAccess) (hbusy : s.STATUS.BUSY = true) :
    ∃ h d, hostAccess a s = withHostData h d s := by
  by_cases hread : a = .readReg 1
  · subst hread
    exact ⟨s.STATUS.HERR, _, readReg_status s⟩
  by_cases hwrite : ∃ v, a = .writeReg 1 v
  · obtain ⟨v, rfl⟩ := hwrite
    rw [hostAccess_writeReg_status]
    split
    · exact ⟨false, s.readData, rfl⟩
    · exact ⟨s.STATUS.HERR, s.readData, rfl⟩
  · exact ⟨true, _, hostAccess_of_busy hbusy hread fun v hv => hwrite ⟨v, hv⟩⟩

/-! ### The sequencer does not see the host's own data -/

/-- Apply a function to the state an outcome goes on with; a stop stays as it is. -/
def onNext (f : State → State) : Host.Outcome State Fault Refusal → Host.Outcome State Fault Refusal
  | .next s => .next (f s)
  | .fault r => .fault r
  | .refused r => .refused r

section
variable (h : Bool) (d : BitVec 64)

theorem withHostData_OPR (s : State) : (withHostData h d s).OPR = s.OPR := rfl

theorem check_withHostData (i : Instr) (s : State) : check i (withHostData h d s) = check i s := by
  cases i <;> rfl

theorem firstWork_withHostData (i : Instr) (s : State) :
    firstWork i (withHostData h d s) = withHostData h d (firstWork i s) := by
  cases i with
  | init wsel rounds klen =>
    simp only [firstWork]
    cases widthOfSel wsel <;> rfl
  | _ => rfl

theorem decodeStep_withHostData (s : State) :
    decodeStep (withHostData h d s) = withHostData h d (decodeStep s) := by
  simp only [decodeStep, withHostData_OPR, check_withHostData, firstWork_withHostData]
  cases decode s.OPR with
  | error e => rfl
  | ok i =>
    dsimp only
    cases check i s <;> rfl

theorem singleStepBody_withHostData {i : Instr} {body : State → State} (hbody : singleStepBody i = some body)
    (s : State) : body (withHostData h d s) = withHostData h d (body s) := by
  cases i <;> cases hbody <;> rfl

theorem execRow_withHostData (s : State) :
    execRow (withHostData h d s) = onNext (withHostData h d) (execRow s) := by
  rw [execRow, execRow, withHostData_OPR]
  cases decode s.OPR with
  | error e => rfl
  | ok i =>
    cases hbody : singleStepBody i with
    | none => simp only [hbody, onNext]
    | some body =>
      simp only [hbody, singleStepBody_withHostData h d hbody]
      rfl

/-- A branch on what the host's own data do not decide commutes with replacing them when both sides do. -/
theorem ite_withHostData {c : Prop} [Decidable c] {s t u v : State} (hu : u = withHostData h d s)
    (hv : v = withHostData h d t) : (if c then u else v) = withHostData h d (if c then s else t) := by
  rw [hu, hv, apply_ite (withHostData h d)]

theorem mixRow_withHostData (s : State) : mixRow (withHostData h d s) = withHostData h d (mixRow s) :=
  ite_withHostData h d rfl rfl

theorem encRoundStep_withHostData {after : State → State} {s : State}
    (hafter : after (withHostData h d s) = withHostData h d (after s)) :
    encRoundStep after (withHostData h d s) = withHostData h d (encRoundStep after s) :=
  ite_withHostData h d rfl hafter

theorem decRoundStep_withHostData {after : State → State} {s : State}
    (hafter : after (withHostData h d s) = withHostData h d (after s)) :
    decRoundStep after (withHostData h d s) = withHostData h d (decRoundStep after s) :=
  ite_withHostData h d rfl hafter

theorem encBlockEnd_withHostData (s : State) :
    encBlockEnd (withHostData h d s) = withHostData h d (encBlockEnd s) :=
  ite_withHostData h d rfl rfl

theorem pairPreRow_withHostData (s : State) :
    pairPreRow (withHostData h d s) = onNext (withHostData h d) (pairPreRow s) := by
  rw [pairPreRow, pairPreRow, withHostData_OPR]
  split <;> rfl

theorem pairRoundRow_withHostData (s : State) :
    pairRoundRow (withHostData h d s) = onNext (withHostData h d) (pairRoundRow s) := by
  rw [pairRoundRow, pairRoundRow, withHostData_OPR]
  split
  · exact congrArg Host.Outcome.next (encRoundStep_withHostData h d rfl)
  · exact congrArg Host.Outcome.next (decRoundStep_withHostData h d rfl)
  · rfl

theorem pairPostRow_withHostData (s : State) :
    pairPostRow (withHostData h d s) = onNext (withHostData h d) (pairPostRow s) := by
  rw [pairPostRow, pairPostRow, withHostData_OPR]
  split <;> rfl

theorem rngValue_withHostData (s : State) : rngValue (withHostData h d s) = rngValue s := rfl

theorem rngAdvance_withHostData (s : State) :
    rngAdvance (withHostData h d s) = withHostData h d (rngAdvance s) := by
  have hanswers : (withHostData h d s).rngAnswers = s.rngAnswers := rfl
  rw [rngAdvance, rngAdvance, hanswers]
  cases s.rngAnswers <;> rfl

theorem ivRow_withHostData (s : State) : ivRow (withHostData h d s) = withHostData h d (ivRow s) := by
  have hdraw : drawIv (withHostData h d s) = withHostData h d (drawIv s) := by
    simp only [drawIv, rngAdvance_withHostData, rngValue_withHostData]
    rfl
  rw [ivRow, hdraw]
  rfl

/-- Every row of the phase table does the same whatever the host's own data are, and leaves them alone. -/
theorem seqStep_withHostData (s : State) :
    seqStep (withHostData h d s) = onNext (withHostData h d) (seqStep s) := by
  have hphase : (withHostData h d s).PHASE = s.PHASE := rfl
  rw [seqStep, seqStep, hphase]
  cases s.PHASE
  case EXEC => exact execRow_withHostData h d s
  case P_PRE => exact pairPreRow_withHostData h d s
  case P_ROUND => exact pairRoundRow_withHostData h d s
  case P_POST => exact pairPostRow_withHostData h d s
  all_goals refine congrArg Host.Outcome.next ?_
  case DECODE => exact decodeStep_withHostData h d s
  case K_MIX => exact mixRow_withHostData h d s
  case E_IV => exact ivRow_withHostData h d s
  case E_ROUND => exact encRoundStep_withHostData h d (encBlockEnd_withHostData h d s)
  case E_IVROUND => exact encRoundStep_withHostData h d rfl
  case D_IVROUND | D_ROUND => exact decRoundStep_withHostData h d rfl
  case IDLE | K_HASH | K_SPLIT | E_LOAD | D_IVLOAD | D_LOAD | D_UNPAD => rfl

end

/-- Settles O51: an access while busy touches the host's own data only, which the sequencer does not see. -/
theorem busyLockOutLeavesCommandAlone : Obligations.BusyLockOutLeavesCommandAlone := by
  refine ⟨fun s a hbusy hread hwrite => ?_, fun _ a => hostAccess_of_busy_changes_hostData a,
    fun s t h d hstep => ?_⟩
  · rw [hostAccess_of_busy hbusy hread hwrite]
    cases a <;> rfl
  · exact (seqStep_withHostData h d s).trans (congrArg (onNext (withHostData h d)) hstep)

/-! ### The bits of A and B above the width (R319) -/

/-- A read by an idle FCE answers the register's value whole. -/
theorem readData_of_idle_read {k : Nat} {s : State} {v : BitVec 64} (hidle : s.STATUS.BUSY = false) (hk : k ≠ 1)
    (hv : regValue s k = some v) : (hostAccess (.readReg k) s).readData = v :=
  congrArg State.readData (readReg_of_idle hidle hk hv)

/-- A host write to an idle FCE puts all 64 bits in A or B. -/
theorem hostAccess_writeReg_pair {s : State} (hidle : s.STATUS.BUSY = false) (v : BitVec 64) :
    hostAccess (.writeReg 6 v) s = { s with A := v } ∧ hostAccess (.writeReg 7 v) s = { s with B := v } := by
  simp [hostAccess, writeReg, hidle]

/-- Replace the word pair. -/
def withPair (a b : Word) (s : State) : State := { s with A := a, B := b }

/-- The results of a command in `u` are those in `t`, and words of the width: OUT, and of A and B what the command
writes. -/
def SameResults (i : Instr) (u t : State) : Prop :=
  u.OUT = t.OUT ∧ ((∀ off, i ≠ .stp off) → u.A = t.A ∧ Fits t.WSEL t.A) ∧
    (i = .encp ∨ i = .decp ∨ (∃ off, i = .ldp off) → u.B = t.B ∧ Fits t.WSEL t.B)

theorem sameResults_of_eq (i : Instr) {u t : State} (h : u = t) (hfits : FitsPair t.WSEL (t.A, t.B)) :
    SameResults i u t := by
  subst h
  exact ⟨rfl, fun _ => ⟨rfl, hfits.1⟩, fun _ => ⟨rfl, hfits.2⟩⟩

/-- A rotation writes A alone. -/
theorem sameResults_of_rotation {i : Instr} {u t : State} (hi : i = .rotl ∨ i = .rotr) (hout : u.OUT = t.OUT)
    (hA : u.A = t.A) (hfits : Fits t.WSEL t.A) : SameResults i u t := by
  refine ⟨hout, fun _ => ⟨hA, hfits⟩, fun hpair => ?_⟩
  rcases hi with rfl | rfl <;> simp at hpair

theorem check_withPair (a b : Word) (i : Instr) (s : State) : check i (withPair a b s) = check i s := by
  cases i <;> rfl

section
variable {s : State} {a b : Word} (ha : toWord s.WSEL a = wordA s) (hb : toWord s.WSEL b = wordB s)
include hb

/-- The amount counts modulo the width only, which divides what the mask keeps. -/
theorem amount_of_same_word : b.toNat % s.WSEL.bits = s.B.toNat % s.WSEL.bits := by
  rw [← toNat_toWord_mod_bits, hb, wordB, toNat_toWord_mod_bits]

include ha

theorem rotlBody_withPair_A : (rotlBody (withPair a b s)).A = (rotlBody s).A := by
  change rotl s.WSEL (toWord s.WSEL a) b = _
  rw [ha, rotl_congr_amount _ (amount_of_same_word hb)]
  rfl

theorem rotrBody_withPair_A : (rotrBody (withPair a b s)).A = (rotrBody s).A := by
  change rotr s.WSEL (toWord s.WSEL a) b = _
  rw [ha, rotr_congr_amount _ (amount_of_same_word hb)]
  rfl

theorem words_withPair : (wordA (withPair a b s), wordB (withPair a b s)) = (wordA s, wordB s) := Prod.ext ha hb

/-- ENCP reads A and B through their words, and overwrites both. -/
theorem encpBody_withPair : encpBody (withPair a b s) = encpBody s := by
  have hpair : encryptPair (withPair a b s) (wordA s, wordB s) = encryptPair s (wordA s, wordB s) :=
    encryptPair_congr (s := withPair a b s) (t := s) rfl rfl rfl _
  rw [encpBody, words_withPair ha hb, hpair]
  rfl

/-- DECP reads A and B through their words, and overwrites both. -/
theorem decpBody_withPair : decpBody (withPair a b s) = decpBody s := by
  have hpair : decryptPair (withPair a b s) (wordA s, wordB s) = decryptPair s (wordA s, wordB s) :=
    decryptPair_congr (s := withPair a b s) (t := s) rfl rfl (fun _ _ => rfl) _
  rw [decpBody, words_withPair ha hb, hpair]
  rfl

/-- STP stores the words of A and B, and leaves the registers as they are. -/
theorem stpBody_withPair (off : Nat) : stpBody off (withPair a b s) = withPair a b (stpBody off s) := by
  obtain ⟨hA, hB⟩ := Prod.mk.inj (words_withPair ha hb)
  rw [stpBody, hA, hB]
  rfl

/-- The pseudocode of the six commands that read or write the pair makes the same results of two pairs that agree in
their words. -/
theorem sameResults_bodyOf_withPair {i : Instr} (hi : i = .rotl ∨ i = .rotr ∨ i = .encp ∨ i = .decp ∨
    (∃ off, i = .ldp off) ∨ ∃ off, i = .stp off) : SameResults i (bodyOf i (withPair a b s)) (bodyOf i s) := by
  rcases hi with rfl | rfl | rfl | rfl | ⟨off, rfl⟩ | ⟨off, rfl⟩
  · exact sameResults_of_rotation (.inl rfl) rfl (rotlBody_withPair_A ha hb) (fits_rotl _ _ _)
  · exact sameResults_of_rotation (.inr rfl) rfl (rotrBody_withPair_A ha hb) (fits_rotr _ _ _)
  · exact sameResults_of_eq _ (encpBody_withPair ha hb) (fitsPair_encryptPair s _)
  · exact sameResults_of_eq _ (decpBody_withPair ha hb) (fitsPair_decryptPair s _)
  · exact sameResults_of_eq _ rfl (fitsPair_pairOfBytes (length_memRead ..))
  · have hout : (stpBody off (withPair a b s)).OUT = (stpBody off s).OUT := by rw [stpBody_withPair ha hb]; rfl
    refine ⟨hout, fun hno => absurd rfl (hno off), fun hpair => ?_⟩
    simp at hpair

end

/-- Settles O21: the checks do not read A and B, and the pseudocode reads their words and, of a rotation's amount, its
value modulo the width. -/
theorem upperBitsOfPairAreIgnored : Obligations.UpperBitsOfPairAreIgnored := by
  refine ⟨fun s v hidle => ?_, fun s a b i t ha hb _ hcheck hi hexec => ?_⟩
  · obtain ⟨hA, hB⟩ := hostAccess_writeReg_pair hidle v
    rw [hA, hB]
    exact ⟨readData_of_idle_read (k := 6) hidle (by decide) rfl, readData_of_idle_read (k := 7) hidle (by decide) rfl⟩
  · rw [exec_of_check_none hcheck] at hexec
    cases hexec
    exact ⟨_, exec_of_check_none ((check_withPair a b i s).trans hcheck), sameResults_bodyOf_withPair ha hb hi⟩

end Sys2Proof.Proofs

/-! PROOFS. Encoding and decoding undo each other, and what a step makes of its turn (spec 30_encoding R90 to R101,
45_system R250 to R255). -/

namespace Sys2Proof.Proofs

open Sys2Proof Sys2Proof.Machine

/-! ### Encoding (R90 to R95) -/

/-- The operands and the opcode of a well-formed command fit 32 bits, so no bit of its word is lost. -/
theorem toNat_encode {i : Instr} (hwf : WellFormed i = true) : (encode i).toNat = operandBits i + opcode i := by
  have hlt : operandBits i + opcode i < 2 ^ 32 := by
    cases i <;> simp only [WellFormed, Bool.and_eq_true, decide_eq_true_eq] at hwf <;>
      simp only [operandBits, opcode] <;> omega
  rw [encode, BitVec.toNat_ofNat, Nat.mod_eq_of_lt hlt]

/-- The word of a well-formed command has its opcode in bits 3:0. -/
theorem bitField_encode_opcode {i : Instr} (hwf : WellFormed i = true) : bitField (encode i) 3 0 = opcode i := by
  rw [bitField, toNat_encode hwf]
  cases i <;> simp only [operandBits, opcode] <;> omega

/-- The word of a well-formed command has its operands in the fields of its format, and zeros elsewhere. -/
theorem fieldsHold_encode {i : Instr} (hwf : WellFormed i = true) : FieldsHold (encode i) i := by
  have hword := toNat_encode hwf
  cases i <;> simp only [WellFormed, Bool.and_eq_true, decide_eq_true_eq] at hwf <;>
    simp only [operandBits, opcode] at hword <;> simp only [FieldsHold, bitField, hword] <;> omega

/-- A command read off the fields of a word is well-formed: an operand is as wide as its field. -/
theorem wellFormed_of_fieldsHold {v : BitVec 32} {i : Instr} (h : FieldsHold v i) : WellFormed i = true := by
  cases i
  case init =>
    obtain ⟨-, rfl, rfl, rfl⟩ := h
    simp only [WellFormed, Bool.and_eq_true, decide_eq_true_eq]
    exact ⟨⟨bitField_lt v 5 4, bitField_lt v 15 8⟩, bitField_lt v 23 16⟩
  case ldp | stp =>
    obtain ⟨-, rfl⟩ := h
    exact decide_eq_true (bitField_lt v 31 8)
  all_goals rfl

/-- A word is the sum of its fields, of which only the opcode and the operands are not zero. -/
theorem toNat_of_fieldsHold {v : BitVec 32} {i : Instr} (hopc : bitField v 3 0 = opcode i) (h : FieldsHold v i) :
    v.toNat = operandBits i + opcode i := by
  have hv := v.isLt
  cases i <;> simp only [FieldsHold, bitField] at h <;> simp only [bitField, opcode] at hopc <;>
    simp only [operandBits, opcode] <;> omega

/-- Settles O2: the word has the opcode and the fields that the decoder asks for. -/
theorem decodeInvertsEncode : Obligations.DecodeInvertsEncode :=
  fun _ hwf => (decode_eq_ok_iff _ _).mpr ⟨bitField_encode_opcode hwf, fieldsHold_encode hwf⟩

/-- Settles O3: the decoder has looked at every bit of the word, so the fields give the word back. -/
theorem encodeInvertsDecode : Obligations.EncodeInvertsDecode := by
  intro v i h
  obtain ⟨hopc, hfields⟩ := (decode_eq_ok_iff v i).mp h
  refine ⟨wellFormed_of_fieldsHold hfields, ?_⟩
  rw [encode, ← toNat_of_fieldsHold hopc hfields, BitVec.ofNat_toNat, BitVec.setWidth_eq]

/-- A word that is the encoding of a well-formed command is read back as that command. -/
theorem decode_eq_of_encode_eq {v : BitVec 32} {i : Instr} (hwf : WellFormed i = true) (h : encode i = v) :
    decode v = .ok i := h ▸ decodeInvertsEncode i hwf

/-- Settles O1: each word is the encoding of its command. -/
theorem decodeReadsWorkedEncodings : Obligations.DecodeReadsWorkedEncodings := by
  unfold Obligations.DecodeReadsWorkedEncodings
  and_intros <;> exact decode_eq_of_encode_eq rfl rfl

/-! ### Turns (log entries 6, 8) -/

/-- A word that an idle FCE takes, and that decodes, runs its command after acceptance. -/
theorem runCommand_of_decode {v : BitVec 32} {i : Instr} {s : State} (hidle : s.STATUS.BUSY = false)
    (hi : decode v = .ok i) : runCommand v s = exec i (accept v s) := by
  simp [runCommand, hidle, hi]

/-- A word of the table that decodes is the word of the `command` turn that `withFetchWord` offers. -/
theorem decode_of_decodeTableWord {nbits w : Nat} {i : Instr} (h : decodeTableWord nbits w = some i) :
    decode (BitVec.ofNat 32 (w % 2 ^ nbits)) = .ok i := by
  unfold decodeTableWord at h
  cases hd : decode (BitVec.ofNat 32 (w % 2 ^ nbits)) with
  | error e => simp [hd, Except.toOption] at h
  | ok j => simpa [hd, Except.toOption] using h

/-- Settles O7: a `command` turn of an idle FCE is the run of its command, and `withFetchWord` offers such a turn. -/
theorem stepRunsDecodedCommand : Obligations.StepRunsDecodedCommand := by
  refine ⟨fun s v i rest hturn hidle hi => ?_, fun s nbits w i hi => ?_⟩
  · rw [step_cons hturn, takeTurn]
    exact runCommand_of_decode (s := { s with turns := rest }) hidle hi
  · rw [step_cons (rest := s.turns) rfl, takeTurn]
    exact runCommand_of_decode rfl (decode_of_decodeTableWord hi)

/-- An idle FCE waits. -/
theorem seqStep_of_idle {s : State} (h : s.PHASE = .IDLE) : seqStep s = .next s := by
  simp [seqStep, h]

/-- Settles O8: `step` takes the first turn, or a sequencer step when there is none. -/
theorem eachTurnMovesItsAgent : Obligations.EachTurnMovesItsAgent := by
  intro s rest
  refine ⟨fun a h => step_cons h, fun h => step_cons h, fun h => step_cons h, step_nil, fun h hidle => ?_⟩
  rw [step_nil h, seqStep_of_idle hidle]

end Sys2Proof.Proofs

/-! PROOFS. What no command and no step of the sequencer touches, and what sets and clears HERR (spec 10_state R37, R39
to R43, 60_exceptions R294). -/

namespace Sys2Proof.Proofs

open Sys2Proof Sys2Proof.Machine

/-! ### The host's side of the state, and the commands that leave it alone -/

/-- What only the host, the acceptance of a word, the environment or a reset writes: the inputs, the latch of the
command word, HERR, and the model's own fields but for the random draws. -/
def hostSide (s : State) : (Memory × Memory × BitVec 32 × BitVec 32) × BitVec 32 × Bool × Platform × List Turn ×
    BitVec 64 × Nat :=
  ((s.PWD, s.IN, s.PWD_LEN, s.IN_LEN), s.OPR, s.STATUS.HERR, s.platform, s.turns, s.readData, s.epoch)

theorem hostSide_eq_iff (s t : State) :
    hostSide t = hostSide s ↔ (t.PWD = s.PWD ∧ t.IN = s.IN ∧ t.PWD_LEN = s.PWD_LEN ∧ t.IN_LEN = s.IN_LEN) ∧
      t.OPR = s.OPR ∧ t.STATUS.HERR = s.STATUS.HERR ∧ t.platform = s.platform ∧ t.turns = s.turns ∧
      t.readData = s.readData ∧ t.epoch = s.epoch := by
  simp only [hostSide, Prod.mk.injEq]

/-- What a function of the state is not changed by, it is not changed by however often it is repeated. -/
theorem eq_of_iterate {α : Type} {f : State → α} {g : State → State} (hg : ∀ s, f (g s) = f s) (n : Nat) (s : State) :
    f (g^[n] s) = f s := by
  induction n with
  | zero => rfl
  | succ n ih => rw [Function.iterate_succ_apply', hg, ih]

theorem hostSide_stripOut (m : Nat) (s : State) : hostSide (stripOut m s) = hostSide s := by
  simp only [hostSide, stripOut, setPadnv, setOutLen]

theorem hostSide_drawIv (s : State) : hostSide (drawIv s) = hostSide s := by
  have hadvance (u : State) : hostSide (rngAdvance u) = hostSide u := by simp [hostSide]
  exact (hadvance (rngAdvance s)).trans (hadvance s)

theorem hostSide_mixTables (s : State) : hostSide (mixTables s) = hostSide s := by
  have hstep (u : State) : hostSide (mixStep u) = hostSide u := rfl
  exact eq_of_iterate hstep (mixCount s) (startMix s)

theorem hostSide_initBody (wsel rounds klen : Nat) (s : State) :
    hostSide (initBody wsel rounds klen s) = hostSide s := by
  unfold initBody
  split
  · exact hostSide_mixTables _
  · rfl

theorem hostSide_encBody (s : State) : hostSide (encBody s) = hostSide s := by
  have hblock (u : State) : hostSide (encBlock u) = hostSide u := rfl
  exact (eq_of_iterate hblock (encBlocks s) (emitIv (drawIv s))).trans (hostSide_drawIv s)

theorem hostSide_decBody (s : State) : hostSide (decBody s) = hostSide s := by
  have hblock (u : State) : hostSide (decBlock u) = hostSide u := rfl
  exact (hostSide_stripOut _ (decBlock^[decBlocks s] (recoverIv s))).trans (eq_of_iterate hblock _ (recoverIv s))

/-- The pseudocode of no command touches the host's side. -/
theorem hostSide_bodyOf (i : Instr) (s : State) : hostSide (bodyOf i s) = hostSide s := by
  cases i with
  | init wsel rounds klen => exact hostSide_initBody wsel rounds klen s
  | enc => exact hostSide_encBody s
  | dec => exact hostSide_decBody s
  | encp | decp | pad | unpad | rotl | rotr | ldp | stp | clr => rfl

/-- No command touches the host's side, whichever way it ends. -/
theorem hostSide_exec {i : Instr} {s t : State} (h : exec i s = .next t) : hostSide t = hostSide s := by
  rw [exec_eq_finish] at h
  rcases finish_next h with ⟨e, -, rfl⟩ | ⟨-, rfl⟩
  · rfl
  · exact hostSide_bodyOf i s

/-! ### The sequencer leaves the host's side alone -/

theorem hostSide_firstWork (i : Instr) (s : State) : hostSide (firstWork i s) = hostSide s := by
  cases i with
  | init wsel rounds klen =>
    simp only [firstWork]
    split <;> rfl
  | _ => rfl

theorem hostSide_decodeStep (s : State) : hostSide (decodeStep s) = hostSide s := by
  unfold decodeStep
  split
  · rfl
  · split
    · rfl
    · exact hostSide_firstWork _ s

/-- Of two states that a row can go on to, either has the host's side of the state before. -/
theorem hostSide_ite {c : Prop} [Decidable c] {s t u : State} (ht : hostSide t = hostSide s)
    (hu : hostSide u = hostSide s) : hostSide (if c then t else u) = hostSide s := by
  split
  · exact ht
  · exact hu

theorem hostSide_execRow {s t : State} (h : execRow s = .next t) : hostSide t = hostSide s := by
  obtain ⟨i, -, rfl⟩ := execRow_next h
  exact hostSide_bodyOf i s

theorem hostSide_pairPreRow {s t : State} (h : pairPreRow s = .next t) : hostSide t = hostSide s := by
  unfold pairPreRow at h
  split at h <;> cases h <;> rfl

theorem hostSide_pairRoundRow {s t : State} (h : pairRoundRow s = .next t) : hostSide t = hostSide s := by
  unfold pairRoundRow at h
  split at h <;> cases h <;> exact hostSide_ite rfl rfl

theorem hostSide_pairPostRow {s t : State} (h : pairPostRow s = .next t) : hostSide t = hostSide s := by
  unfold pairPostRow at h
  split at h <;> cases h <;> rfl

/-- No row of the phase table touches the host's side. -/
theorem hostSide_seqStep {s t : State} (h : seqStep s = .next t) : hostSide t = hostSide s := by
  unfold seqStep at h
  cases hphase : s.PHASE <;> simp only [hphase] at h
  case EXEC => exact hostSide_execRow h
  case P_PRE => exact hostSide_pairPreRow h
  case P_ROUND => exact hostSide_pairRoundRow h
  case P_POST => exact hostSide_pairPostRow h
  all_goals cases h
  case DECODE => exact hostSide_decodeStep s
  case E_IV => exact hostSide_drawIv s
  case E_ROUND => exact hostSide_ite rfl (hostSide_ite rfl rfl)
  case K_MIX | E_IVROUND | D_IVROUND | D_ROUND => exact hostSide_ite rfl rfl
  case D_UNPAD => exact hostSide_stripOut _ s
  case IDLE | K_HASH | K_SPLIT | E_LOAD | D_IVLOAD | D_LOAD => rfl

/-- Settles O59: the inputs are on the host's side. -/
theorem commandsLeaveInputsAlone : Obligations.CommandsLeaveInputsAlone := by
  intro s t h
  have hkept : hostSide t = hostSide s := by
    rcases h with ⟨i, h⟩ | h
    · exact hostSide_exec h
    · exact hostSide_seqStep h
  exact ((hostSide_eq_iff s t).mp hkept).1

/-! ### What a host access does (45_system R257 to R259) -/

/-- The effect of a host access: an access of the list of R294 is refused, and each of the others does one thing. -/
inductive HostEffect (s : State) : HostAccess → State → Prop
  | refused {a : HostAccess} (h : RefusedAccess s a) : HostEffect s a (withHostData true (refusalAnswer s a) s)
  | readStatus : HostEffect s (.readReg 1) (answer ((statusWord s.STATUS).setWidth 64) s)
  | readReg {k : Nat} {v : BitVec 64} (idle : s.STATUS.BUSY = false) (hk : k ≠ 1) (hv : regValue s k = some v) :
      HostEffect s (.readReg k) (answer v s)
  | readByte {b : Buf} {o : Nat} (idle : s.STATUS.BUSY = false) (hb : b ≠ .password) (ho : o < capacity s.platform b) :
      HostEffect s (.readByte b o) (answer ((byteAt s b o).setWidth 64) s)
  | writeCmd {v : BitVec 64} (idle : s.STATUS.BUSY = false) : HostEffect s (.writeReg 0 v) (accept (v.setWidth 32) s)
  | clearHerr {v : BitVec 64} (h : v.getLsbD 5 = true) : HostEffect s (.writeReg 1 v) (withHostData false s.readData s)
  | keepHerr {v : BitVec 64} (h : v.getLsbD 5 = false) : HostEffect s (.writeReg 1 v) s
  | writePwdLen {v : BitVec 64} (idle : s.STATUS.BUSY = false) :
      HostEffect s (.writeReg 3 v) { s with PWD_LEN := v.setWidth 32 }
  | writeInLen {v : BitVec 64} (idle : s.STATUS.BUSY = false) :
      HostEffect s (.writeReg 4 v) { s with IN_LEN := v.setWidth 32 }
  | writeA {v : BitVec 64} (idle : s.STATUS.BUSY = false) : HostEffect s (.writeReg 6 v) { s with A := v }
  | writeB {v : BitVec 64} (idle : s.STATUS.BUSY = false) : HostEffect s (.writeReg 7 v) { s with B := v }
  | writeByte {b : Buf} {o : Nat} {x : Byte} (idle : s.STATUS.BUSY = false) (hb : b ≠ .output)
      (ho : o < capacity s.platform b) : HostEffect s (.writeByte b o x) (memWrite b o [x] s)

/-- An access of the list of R294 is refused: HERR is set, a read answers 0, and nothing else changes. -/
theorem hostAccess_of_refused {s : State} {a : HostAccess} (h : RefusedAccess s a) :
    hostAccess a s = withHostData true (refusalAnswer s a) s := by
  cases a with
  | readReg k =>
    rcases h with rfl | h | ⟨hbusy, hk⟩
    · exact readReg_of_refused (by decide) (.inr rfl)
    · exact readReg_of_refused (by omega) (.inr (regValue_eq_none s (.inr h)))
    · exact readReg_of_refused hk (.inl hbusy)
  | writeReg k v =>
    rcases h with h | h | h | ⟨hbusy, hk⟩
    · exact writeReg_of_no_register v s (.inl h)
    · exact writeReg_of_no_register v s (.inr (.inl h))
    · exact writeReg_of_no_register v s (.inr (.inr h))
    · exact writeReg_of_busy v hk hbusy
  | readByte b off => exact (readByte_eq b off s).trans (if_pos h)
  | writeByte b off x => exact (writeByte_eq b off x s).trans (if_pos h)

/-- A register read that is not of the list, of a register other than STATUS, meets an idle FCE and a value. -/
theorem hostEffect_readReg {s : State} {k : Nat} (h : ¬ RefusedAccess s (.readReg k)) :
    HostEffect s (.readReg k) (readReg k s) := by
  simp only [RefusedAccess, not_or, not_and, not_not] at h
  obtain ⟨h0, h8, hbusy⟩ := h
  by_cases hk : k = 1
  · subst hk
    exact .readStatus
  · have hidle : s.STATUS.BUSY = false := by simpa [hk] using hbusy
    have hvalue : ∃ v, regValue s k = some v := by
      match k with
      | 0 => exact absurd rfl h0
      | 1 => exact absurd rfl hk
      | 2 | 3 | 4 | 5 | 6 | 7 => exact ⟨_, rfl⟩
      | _ + 8 => omega
    obtain ⟨v, hv⟩ := hvalue
    rw [readReg_of_idle hidle hk hv]
    exact .readReg hidle hk hv

/-- A register write that is not of the list is that of STATUS, or stores into an idle FCE. -/
theorem hostEffect_writeReg {s : State} {k : Nat} {v : BitVec 64} (h : ¬ RefusedAccess s (.writeReg k v)) :
    HostEffect s (.writeReg k v) (writeReg k v s) := by
  simp only [RefusedAccess, not_or, not_and, not_not] at h
  obtain ⟨h2, h5, h8, hbusy⟩ := h
  by_cases hk : k = 1
  · subst hk
    change HostEffect s _ (hostAccess (.writeReg 1 v) s)
    rw [hostAccess_writeReg_status]
    cases hbit : v.getLsbD 5 with
    | false => exact .keepHerr hbit
    | true => exact .clearHerr hbit
  · have hidle : s.STATUS.BUSY = false := by simpa [hk] using hbusy
    unfold writeReg writeCmd
    simp only [hidle]
    match k with
    | 0 => exact .writeCmd hidle
    | 1 => exact absurd rfl hk
    | 2 => exact absurd rfl h2
    | 3 => exact .writePwdLen hidle
    | 4 => exact .writeInLen hidle
    | 5 => exact absurd rfl h5
    | 6 => exact .writeA hidle
    | 7 => exact .writeB hidle
    | _ + 8 => omega

theorem hostEffect_hostAccess (a : HostAccess) (s : State) : HostEffect s a (hostAccess a s) := by
  by_cases h : RefusedAccess s a
  · rw [hostAccess_of_refused h]
    exact .refused h
  cases a with
  | readReg k => exact hostEffect_readReg h
  | writeReg k v => exact hostEffect_writeReg h
  | readByte b off =>
    rw [RefusedAccess] at h
    rw [hostAccess, readByte_eq, if_neg h]
    simp only [not_or, Bool.not_eq_true, not_le] at h
    obtain ⟨hidle, hb, ho⟩ := h
    exact .readByte hidle hb ho
  | writeByte b off x =>
    rw [RefusedAccess] at h
    rw [hostAccess, writeByte_eq, if_neg h]
    simp only [not_or, Bool.not_eq_true, not_le] at h
    obtain ⟨hidle, hb, ho⟩ := h
    exact .writeByte hidle hb ho

/-! ### HERR (10_state R37, 60_exceptions R294) -/

theorem HERR_of_hostSide_eq {s t : State} (h : hostSide t = hostSide s) : t.STATUS.HERR = s.STATUS.HERR := by
  obtain ⟨-, -, hherr, -⟩ := (hostSide_eq_iff s t).mp h
  exact hherr

/-- A host access sets HERR when it is of the list, clears it when it is a write to STATUS with bit 5 set, and else
leaves it alone. -/
theorem HERR_of_hostEffect {s t : State} {a : HostAccess} (h : HostEffect s a t) :
    (RefusedAccess s a ∧ t.STATUS.HERR = true) ∨
      (∃ v, a = .writeReg 1 v ∧ v.getLsbD 5 = true ∧ t.STATUS.HERR = false) ∨ t.STATUS.HERR = s.STATUS.HERR := by
  cases h with
  | refused h => exact .inl ⟨h, rfl⟩
  | clearHerr h => exact .inr (.inl ⟨_, rfl, h, rfl⟩)
  | writeByte => exact .inr (.inr (by rw [memWrite_STATUS]))
  | _ => exact .inr (.inr rfl)

/-- HERR after a whole command: set when the word was written while busy, and else left alone. -/
theorem HERR_of_runCommand {v : BitVec 32} {s t : State} (h : runCommand v s = .next t) :
    (s.STATUS.BUSY = true ∧ t.STATUS.HERR = true) ∨ t.STATUS.HERR = s.STATUS.HERR := by
  rcases runCommand_next_cases h with ⟨hbusy, rfl⟩ | ⟨-, -, rfl⟩ | ⟨-, i, -, ⟨e, -, rfl⟩ | ⟨-, rfl⟩⟩
  · exact .inl ⟨hbusy, rfl⟩
  · exact .inr rfl
  · exact .inr rfl
  · have hbody := HERR_of_hostSide_eq (hostSide_bodyOf i (accept v s))
    exact .inr hbody

/-- A flag that has not changed has neither been set nor cleared. -/
theorem neither_set_nor_cleared {old new : Bool} {p q : Prop} (h : new = old) :
    (old = false → new = true → p) ∧ (old = true → new = false → q) := by
  subst h
  cases new <;> simp

/-- The list of R294 does not speak of the events to come. -/
theorem refusedAccess_turns {s : State} {a : HostAccess} {turns : List Turn}
    (h : RefusedAccess { s with turns := turns } a) : RefusedAccess s a := by
  cases a <;> exact h

/-- Settles O52: of the agents' moves the host's accesses decide on HERR by the list of R294 and by bit 5 of STATUS, a
whole command by BUSY, a reset clears it, and the sequencer leaves it alone. -/
theorem herrSetByRefusalOnly : Obligations.HerrSetByRefusalOnly := by
  refine ⟨fun s a h => ⟨_, hostAccess_of_refused h⟩, fun s t hstep => ?_⟩
  rcases step_next_cases hstep with ⟨-, h⟩ | ⟨a, rest, hturn, rfl⟩ | ⟨rest, -, h⟩ | ⟨v, rest, hturn, h⟩ |
    ⟨rest, hturn, rfl⟩
  · have hkept := HERR_of_hostSide_eq (hostSide_seqStep h)
    exact neither_set_nor_cleared hkept
  · rcases HERR_of_hostEffect (hostEffect_hostAccess a { s with turns := rest }) with
      ⟨hrefused, hset⟩ | ⟨v, rfl, hbit, hclear⟩ | hkept
    · exact ⟨fun _ _ => .inl ⟨a, rest, hturn, refusedAccess_turns hrefused⟩, by simp [hset]⟩
    · exact ⟨by simp [hclear], fun _ _ => .inl ⟨v, rest, hturn, hbit⟩⟩
    · exact neither_set_nor_cleared hkept
  · have hkept := HERR_of_hostSide_eq (hostSide_seqStep h)
    exact neither_set_nor_cleared hkept
  · rcases HERR_of_runCommand h with ⟨hbusy, hset⟩ | hkept
    · exact ⟨fun _ _ => .inr ⟨v, rest, hturn, hbusy⟩, by simp [hset]⟩
    · exact neither_set_nor_cleared hkept
  · exact ⟨fun _ hset => absurd hset Bool.false_ne_true, fun _ _ => .inr ⟨rest, hturn⟩⟩

end Sys2Proof.Proofs

/-! PROOFS. The key as the trailing bytes of the hash chain (spec 41_keyschedule R150). -/

namespace Sys2Proof.Proofs

open Sys2Proof Sys2Proof.Machine

/-! ### The key material, chunk by chunk -/

/-- Chunk `k` of the material after `m` re-hashes has the `m - k` newer chunks in front. -/
theorem getD_stretch_snd (p : Platform) (pwd : List Byte) {m k q : Nat} (hk : k ≤ m) (hq : q < p.HLEN) :
    (stretch p pwd m).2.getD ((m - k) * p.HLEN + q) 0 = ((hash p)^[k + 1] pwd).getD q 0 := by
  induction m with
  | zero =>
    obtain rfl : k = 0 := by omega
    rw [Nat.sub_self, Nat.zero_mul, Nat.zero_add]
    rfl
  | succ m ih =>
    have hnew : (rehash p (stretch p pwd m)).2 = (hash p)^[m + 2] pwd ++ (stretch p pwd m).2 := by
      rw [rehash, stretch_fst, ← Function.iterate_succ_apply' (hash p)]
    have hlen : ((hash p)^[m + 2] pwd).length = p.HLEN := by
      rw [Function.iterate_succ_apply', length_hash]
    rw [stretch_succ, hnew]
    rcases Nat.lt_or_ge m k with hlt | hle
    · obtain rfl : k = m + 1 := by omega
      rw [Nat.sub_self, Nat.zero_mul, Nat.zero_add, List.getD_append _ _ _ _ (by omega)]
    · have hindex : (m + 1 - k) * p.HLEN + q = p.HLEN + ((m - k) * p.HLEN + q) := by
        rw [Nat.sub_add_comm hle, Nat.succ_mul]
        omega
      rw [hindex, List.getD_append_right _ _ _ _ (by omega), hlen, Nat.add_sub_cancel_left, ih hle]

/-- A chunk of which a byte is part of the key is one of the chunks that are requested. -/
theorem lt_hashCount {p : Platform} {klen k q : Nat} (hp : 1 ≤ p.HLEN) (hq : q < p.HLEN)
    (h : (k + 1) * p.HLEN ≤ klen + q) : k < hashCount p klen := by
  have hcover : klen ≤ hashCount p klen * p.HLEN := le_ceilDiv_mul klen hp
  refine Nat.lt_of_mul_lt_mul_right (a := p.HLEN) ?_
  rw [Nat.succ_mul] at h
  omega

/-- Byte `q` of chunk `k` stands in the key at `klen - (k+1)*HLEN + q`. -/
theorem getD_kdf {p : Platform} (pwd : List Byte) {klen k q : Nat} (hp : 1 ≤ p.HLEN) (hq : q < p.HLEN)
    (h : (k + 1) * p.HLEN ≤ klen + q) :
    (kdf p pwd klen).getD (klen + q - (k + 1) * p.HLEN) 0 = ((hash p)^[k + 1] pwd).getD q 0 := by
  have hk := lt_hashCount hp hq h
  have hcover : klen ≤ hashCount p klen * p.HLEN := le_ceilDiv_mul klen hp
  have hsplit : hashCount p klen * p.HLEN = (hashCount p klen - 1 - k) * p.HLEN + (k + 1) * p.HLEN := by
    rw [← Nat.add_mul]
    congr 1
    omega
  have hindex : hashCount p klen * p.HLEN - klen + (klen + q - (k + 1) * p.HLEN) =
      (hashCount p klen - 1 - k) * p.HLEN + q := by omega
  rw [kdf, List.getD_eq_getElem?_getD, List.getElem?_drop, length_stretch_snd, Nat.sub_add_cancel (by omega), hindex,
    ← List.getD_eq_getElem?_getD, getD_stretch_snd p pwd (by omega) hq]

/-- A key that one answer covers is the end of the answer. -/
theorem kdf_of_le_HLEN {p : Platform} (pwd : List Byte) {klen : Nat} (hklen : 1 ≤ klen)
    (hle : klen ≤ p.HLEN) : kdf p pwd klen = (hash p pwd).drop (p.HLEN - klen) := by
  have hcount : hashCount p klen = 1 := Nat.div_eq_of_lt_le (by omega) (by omega)
  have hone : stretch p pwd (hashCount p klen - 1) = (hash p pwd, hash p pwd) := by rw [hcount]; rfl
  rw [kdf, hone, length_hash]

/-- Settles O22: the material is the chunks one behind the other, and the key is its end. -/
theorem kdfKeepsTrailingBytes : Obligations.KdfKeepsTrailingBytes :=
  fun p pwd _ hp hklen => ⟨length_hash p pwd, length_kdf pwd hp hklen, fun _ _ hq h => getD_kdf pwd hp hq h,
    kdf_of_le_HLEN pwd hklen⟩

end Sys2Proof.Proofs

/-! PROOFS. The steps of the sequencer in every command but INIT (spec 45_system R251 to R254). -/

namespace Sys2Proof.Proofs

open Sys2Proof Sys2Proof.Machine

/-! ### Runs of the sequencer -/

/-- `n` steps of the sequencer lead from `s` to `t`, and BUSY is 1 until the last of them. -/
def BusyRun (n : Nat) (s t : State) : Prop :=
  seqRun n s = .next t ∧ ∀ k, k < n → ∃ u, seqRun k s = .next u ∧ u.STATUS.BUSY = true

theorem busyRun_zero (s : State) : BusyRun 0 s s := ⟨rfl, fun _ hk => absurd hk (Nat.not_lt_zero _)⟩

theorem busyRun_one {s t : State} (hbusy : s.STATUS.BUSY = true) (h : seqStep s = .next t) : BusyRun 1 s t := by
  refine ⟨by simp [seqRun, h], fun k hk => ⟨s, ?_, hbusy⟩⟩
  obtain rfl : k = 0 := by omega
  rfl

/-- A run goes on from where its first steps have led. -/
theorem seqRun_add {m : Nat} {s t : State} (h : seqRun m s = .next t) (n : Nat) : seqRun (m + n) s = seqRun n t := by
  induction m generalizing s with
  | zero =>
    cases h
    rw [Nat.zero_add]
  | succ m ih =>
    rw [Nat.succ_add, seqRun]
    rw [seqRun] at h
    cases hstep : seqStep s with
    | next u => exact ih (by simpa only [hstep] using h)
    | fault r => simp [hstep] at h
    | refused r => simp [hstep] at h

theorem BusyRun.trans {m n : Nat} {s t u : State} (h₁ : BusyRun m s t) (h₂ : BusyRun n t u) : BusyRun (m + n) s u := by
  obtain ⟨hto, hbusy⟩ := h₁
  obtain ⟨hto', hbusy'⟩ := h₂
  refine ⟨by rw [seqRun_add hto, hto'], fun k hk => ?_⟩
  rcases Nat.lt_or_ge k m with hlt | hle
  · exact hbusy k hlt
  · obtain ⟨j, rfl⟩ := Nat.exists_eq_add_of_le hle
    rw [seqRun_add hto]
    exact hbusy' j (by omega)

/-- A loop of `n` passes of `c` steps each; `f k` is the state after `k` passes. -/
theorem busyRun_loop {c n : Nat} {f : Nat → State} (h : ∀ k, k < n → BusyRun c (f k) (f (k + 1))) :
    BusyRun (n * c) (f 0) (f n) := by
  induction n with
  | zero => rw [Nat.zero_mul]; exact busyRun_zero _
  | succ n ih =>
    rw [Nat.succ_mul]
    exact (ih fun k hk => h k (by omega)).trans (h n (by omega))

/-! ### The rounds of a pair (R254, rows P_ROUND, E_IVROUND, E_ROUND, D_IVROUND, D_ROUND) -/

/-- The round counter at `k`. -/
def setRC (k : Nat) (s : State) : State := { s with RC := BitVec.ofNat 9 k }

/-- The working pair and the round counter between two rounds. -/
def atRound (p : Word × Word) (k : Nat) (s : State) : State := setRC k (setXY p s)

theorem toNat_RC_atRound (p : Word × Word) {k : Nat} (hk : k < 2 ^ 9) (s : State) : (atRound p k s).RC.toNat = k := by
  rw [atRound, setRC, BitVec.toNat_ofNat, Nat.mod_eq_of_lt hk]

/-- The un-rounds start at `RC = R`. -/
theorem atRound_R (p : Word × Word) (s : State) :
    atRound p s.R.toNat s = { setXY p s with RC := s.R.setWidth 9 } := by
  rw [atRound, setRC, BitVec.ofNat_toNat]

/-- The round counter counts up. -/
theorem encRoundStep_atRound (after : State → State) (p : Word × Word) {k : Nat} {s : State} (hk : k ≤ s.R.toNat) :
    encRoundStep after (atRound p k s) = atRound (encRound s k p) (k + 1) s := by
  have hR := s.R.isLt
  have hcount := toNat_RC_atRound p (show k < 2 ^ 9 by omega) s
  have hnext : BitVec.ofNat 9 (k + 1) = BitVec.ofNat 9 k + 1 := BitVec.ofNat_add ..
  rw [encRoundStep, hcount]
  refine (if_pos hk).trans ?_
  conv_rhs => rw [atRound, setRC, hnext]
  rfl

theorem encRoundStep_after (after : State → State) (p : Word × Word) (s : State) :
    encRoundStep after (atRound p (s.R.toNat + 1) s) = after (atRound p (s.R.toNat + 1) s) := by
  have hR := s.R.isLt
  have hcount := toNat_RC_atRound p (show s.R.toNat + 1 < 2 ^ 9 by omega) s
  rw [encRoundStep, hcount]
  exact if_neg (Nat.not_succ_le_self s.R.toNat)

/-- The round counter counts down. -/
theorem decRoundStep_atRound (after : State → State) (p : Word × Word) {k : Nat} {s : State} (hk : k < 2 ^ 8) :
    decRoundStep after (atRound p (k + 1) s) = atRound (decRound s (k + 1) p) k s := by
  have hcount := toNat_RC_atRound p (show k + 1 < 2 ^ 9 by omega) s
  have hnext : BitVec.ofNat 9 k = BitVec.ofNat 9 (k + 1) - 1 := by
    rw [BitVec.ofNat_add]
    exact (BitVec.add_sub_cancel _ _).symm
  rw [decRoundStep, hcount, if_pos (Nat.le_add_left 1 k)]
  conv_rhs => rw [atRound, setRC, hnext]
  rfl

theorem decRoundStep_after (after : State → State) (p : Word × Word) (s : State) :
    decRoundStep after (atRound p 0 s) = after (atRound p 0 s) := rfl

section
variable {s : State} {after : State → State} (hbusy : s.STATUS.BUSY = true)
include hbusy

/-- The rounds of an encryption, and the step behind the last of them: `R + 1` steps. -/
theorem busyRun_encryptPair (hrow : ∀ p k, seqStep (atRound p k s) = .next (encRoundStep after (atRound p k s)))
    (q : Word × Word) :
    BusyRun (s.R.toNat + 1) (atRound (whiten s q) 1 s) (after (atRound (encryptPair s q) (s.R.toNat + 1) s)) := by
  have hround (k : Nat) (hk : k < s.R.toNat) :
      BusyRun 1 (atRound (encRounds s k (whiten s q)) (k + 1) s)
        (atRound (encRounds s (k + 1) (whiten s q)) (k + 1 + 1) s) :=
    busyRun_one hbusy (by rw [hrow, encRoundStep_atRound _ _ hk, encRounds])
  have hrounds := busyRun_loop (f := fun k => atRound (encRounds s k (whiten s q)) (k + 1) s) hround
  rw [Nat.mul_one] at hrounds
  exact hrounds.trans (busyRun_one hbusy (by rw [hrow, encRoundStep_after]; rfl))

/-- The un-rounds of a decryption, and the step behind the last of them. -/
theorem busyRun_decRounds (hrow : ∀ p k, seqStep (atRound p k s) = .next (decRoundStep after (atRound p k s)))
    {k : Nat} (hk : k < 2 ^ 8) (q : Word × Word) :
    BusyRun (k + 1) (atRound q k s) (after (atRound (decRounds s k q) 0 s)) := by
  induction k generalizing q with
  | zero => exact busyRun_one hbusy (by rw [hrow, decRoundStep_after]; rfl)
  | succ k ih =>
    have hround : BusyRun 1 (atRound q (k + 1) s) (atRound (decRound s (k + 1) q) k s) :=
      busyRun_one hbusy (by rw [hrow, decRoundStep_atRound _ _ (by omega)])
    rw [Nat.add_comm]
    exact hround.trans (ih (by omega) _)

end

/-! ### The DECODE step, and the commands of a single step -/

theorem busyRun_decode {s : State} {i : Instr} (hphase : s.PHASE = .DECODE) (hbusy : s.STATUS.BUSY = true)
    (hi : decode s.OPR = .ok i) (hcheck : check i s = none) : BusyRun 1 s (firstWork i s) := by
  refine busyRun_one hbusy ?_
  rw [seqStep_of_decode hphase]
  simp only [decodeStep, hi, hcheck]

/-- The pseudocode of a single-step command does not read PHASE, and the end of the command overwrites it. -/
theorem okEnd_singleStepBody_toPhase {i : Instr} {body : State → State} (h : singleStepBody i = some body) (p : Phase)
    (s : State) : okEnd (body (toPhase p s)) = okEnd (body s) := by
  cases i <;> cases h <;> rfl

theorem busyRun_exec {s : State} {i : Instr} {body : State → State} (hbusy : s.STATUS.BUSY = true)
    (hi : decode s.OPR = .ok i) (hbody : singleStepBody i = some body) :
    BusyRun 1 (toPhase .EXEC s) (okEnd (bodyOf i s)) := by
  refine busyRun_one hbusy ?_
  rw [← eq_bodyOf_of_singleStepBody hbody, ← okEnd_singleStepBody_toPhase hbody .EXEC]
  simp only [seqStep, toPhase_PHASE, execRow, toPhase_OPR, hi, hbody]

/-! ### ENCP and DECP -/

@[simp] theorem encryptPair_toPhase (p : Phase) (s : State) (q : Word × Word) :
    encryptPair (toPhase p s) q = encryptPair s q := encryptPair_congr (s := toPhase p s) (t := s) rfl rfl rfl q

@[simp] theorem decryptPair_toPhase (p : Phase) (s : State) (q : Word × Word) :
    decryptPair (toPhase p s) q = decryptPair s q :=
  decryptPair_congr (s := toPhase p s) (t := s) rfl rfl (fun _ _ => rfl) q

theorem pairPreRow_of_encp {s : State} (hi : decode s.OPR = .ok .encp) :
    pairPreRow s = .next (toPhase .P_ROUND (atRound (whiten s (wordA s, wordB s)) 1 s)) := by
  simp only [pairPreRow, hi]
  rfl

theorem pairPreRow_of_decp {s : State} (hi : decode s.OPR = .ok .decp) :
    pairPreRow s = .next (toPhase .P_ROUND (atRound (wordA s, wordB s) s.R.toNat s)) := by
  simp only [pairPreRow, hi, atRound_R]

theorem pairRoundRow_of_encp {s : State} (hi : decode s.OPR = .ok .encp) :
    pairRoundRow s = .next (encRoundStep (toPhase .P_POST) s) := by
  simp only [pairRoundRow, hi]

theorem pairRoundRow_of_decp {s : State} (hi : decode s.OPR = .ok .decp) :
    pairRoundRow s = .next (decRoundStep (toPhase .P_POST) s) := by
  simp only [pairRoundRow, hi]

theorem pairPostRow_of_encp {s : State} (hi : decode s.OPR = .ok .encp) :
    pairPostRow s = .next (okEnd (pairToAB s)) := by
  simp only [pairPostRow, hi]

theorem pairPostRow_of_decp {s : State} (hi : decode s.OPR = .ok .decp) :
    pairPostRow s = .next (okEnd (pairToAB (setXY (unwhiten s (workPair s)) s))) := by
  simp only [pairPostRow, hi]

section
variable {s : State} (hbusy : s.STATUS.BUSY = true)
include hbusy

/-- ENCP: row P_PRE, `R + 1` steps of row P_ROUND, row P_POST. -/
theorem busyRun_encp (hi : decode s.OPR = .ok .encp) :
    BusyRun (1 + (s.R.toNat + 1) + 1) (toPhase .P_PRE s) (okEnd (encpBody s)) := by
  have hpre : BusyRun 1 (toPhase .P_PRE s) (atRound (whiten s (wordA s, wordB s)) 1 (toPhase .P_ROUND s)) :=
    busyRun_one hbusy (pairPreRow_of_encp (s := toPhase .P_PRE s) hi)
  have hrounds := busyRun_encryptPair (s := toPhase .P_ROUND s) hbusy
    (fun p k => pairRoundRow_of_encp (s := atRound p k (toPhase .P_ROUND s)) hi) (wordA s, wordB s)
  rw [encryptPair_toPhase] at hrounds
  have hpost : BusyRun 1 (toPhase .P_POST (atRound (encryptPair s (wordA s, wordB s)) (s.R.toNat + 1)
      (toPhase .P_ROUND s))) (okEnd (encpBody s)) :=
    busyRun_one hbusy (pairPostRow_of_encp (s := toPhase .P_POST (atRound _ _ (toPhase .P_ROUND s))) hi)
  exact (hpre.trans hrounds).trans hpost

/-- DECP: row P_PRE, `R + 1` steps of row P_ROUND, row P_POST. -/
theorem busyRun_decp (hi : decode s.OPR = .ok .decp) :
    BusyRun (1 + (s.R.toNat + 1) + 1) (toPhase .P_PRE s) (okEnd (decpBody s)) := by
  have hpre : BusyRun 1 (toPhase .P_PRE s) (atRound (wordA s, wordB s) s.R.toNat (toPhase .P_ROUND s)) :=
    busyRun_one hbusy (pairPreRow_of_decp (s := toPhase .P_PRE s) hi)
  have hrounds := busyRun_decRounds (s := toPhase .P_ROUND s) hbusy
    (fun p k => pairRoundRow_of_decp (s := atRound p k (toPhase .P_ROUND s)) hi) s.R.isLt (wordA s, wordB s)
  have hpair := decryptPair_toPhase .P_ROUND s (wordA s, wordB s)
  have hpost : BusyRun 1 (toPhase .P_POST (atRound (decRounds (toPhase .P_ROUND s) s.R.toNat (wordA s, wordB s)) 0
      (toPhase .P_ROUND s))) (okEnd (decpBody s)) := by
    rw [decpBody, ← hpair]
    exact busyRun_one hbusy (pairPostRow_of_decp (s := toPhase .P_POST (atRound _ _ (toPhase .P_ROUND s))) hi)
  exact (hpre.trans hrounds).trans hpost

end

/-! ### ENC (rows E_IV to E_ROUND) -/

/-- The draws do not depend on PHASE. -/
theorem drawIv_toPhase (p : Phase) (s : State) : drawIv (toPhase p s) = toPhase p (drawIv s) := by
  have hadvance (u : State) : rngAdvance (toPhase p u) = toPhase p (rngAdvance u) := by
    rw [rngAdvance, rngAdvance, toPhase_rngAnswers]
    cases u.rngAnswers <;> rfl
  have hvalue (u : State) : rngValue (toPhase p u) = rngValue u := rfl
  simp only [drawIv, hadvance, hvalue, toPhase_WSEL]
  rfl

@[simp] theorem drawIv_STATUS (s : State) : (drawIv s).STATUS = s.STATUS := by simp [drawIv]

@[simp] theorem encryptPair_setRC (k : Nat) (s : State) (q : Word × Word) :
    encryptPair (setRC k s) q = encryptPair s q := encryptPair_congr (s := setRC k s) (t := s) rfl rfl rfl q

/-- Where ENC goes when a block is done: `s` is the state after the pass, `n` the number of blocks. -/
def afterEncPass (n : Nat) (s : State) : State :=
  if s.BI.toNat < n then toPhase .E_LOAD s else okEnd (setOutLen ((n + 1) * blockSize s.WSEL) s)

/-- A pass of ENC's block loop whose ciphertext pair is `p`. -/
def encPass (p : Word × Word) (s : State) : State :=
  { setCV p (storePair ((s.BI.toNat + 1) * blockSize s.WSEL) p.1 p.2 (setXY p s)) with BI := s.BI + 1 }

theorem encBlock_eq_encPass (s : State) :
    encBlock s = encPass (encryptPair s (xorPair (loadPaddedPair s s.BI.toNat) (s.CV0, s.CV1))) s := rfl

theorem encBlockEnd_eq_encPass (s : State) :
    encBlockEnd s = afterEncPass (encBlocks s) (encPass (workPair s) s) := rfl

theorem afterEncPass_toPhase (n : Nat) (p : Phase) (s : State) :
    afterEncPass n (toPhase p s) = afterEncPass n s := rfl

/-- What row E_ROUND does after the rounds of a block is a pass with the working pair. -/
theorem encBlockEnd_atRound (p : Word × Word) (k r : Nat) (s : State) :
    encBlockEnd (atRound p r (toPhase .E_ROUND (setRC k s))) = afterEncPass (encBlocks s) (setRC r (encPass p s)) := by
  have hpass : encPass p (atRound p r (toPhase .E_ROUND (setRC k s))) = toPhase .E_ROUND (setRC r (encPass p s)) := rfl
  have hcount : encBlocks (atRound p r (toPhase .E_ROUND (setRC k s))) = encBlocks s := rfl
  have hpair : workPair (atRound p r (toPhase .E_ROUND (setRC k s))) = p := rfl
  rw [encBlockEnd_eq_encPass, hpair, hpass, hcount, afterEncPass_toPhase]

/-- A block of ENC: row E_LOAD and `R + 1` steps of row E_ROUND. -/
theorem busyRun_encBlock {s : State} (hbusy : s.STATUS.BUSY = true) (k : Nat) :
    BusyRun (1 + (s.R.toNat + 1)) (toPhase .E_LOAD (setRC k s))
      (afterEncPass (encBlocks s) (setRC (s.R.toNat + 1) (encBlock s))) := by
  have hload : BusyRun 1 (toPhase .E_LOAD (setRC k s)) (atRound (whiten s (xorPair (loadPaddedPair s s.BI.toNat)
      (s.CV0, s.CV1))) 1 (toPhase .E_ROUND (setRC k s))) := busyRun_one hbusy rfl
  have hrounds := busyRun_encryptPair (s := toPhase .E_ROUND (setRC k s)) (after := encBlockEnd) hbusy
    (fun _ _ => rfl) (xorPair (loadPaddedPair s s.BI.toNat) (s.CV0, s.CV1))
  rw [encryptPair_toPhase, encryptPair_setRC] at hrounds
  rw [encBlockEnd_atRound, ← encBlock_eq_encPass] at hrounds
  exact hload.trans hrounds

/-- The state of ENC after `n` passes of its block loop; `s` is the state in which the IV has been drawn. -/
def encLoopState (s : State) (n : Nat) : State :=
  afterEncPass (encBlocks s) (setRC (s.R.toNat + 1) (encProgress s n))

theorem toNat_BI_encProgress {s : State} {n : Nat} (hn : n < 2 ^ 32) : (encProgress s n).BI.toNat = n := by
  rw [encProgress, BitVec.toNat_ofNat, Nat.mod_eq_of_lt hn]

theorem encBlocks_lt (s : State) : encBlocks s < 2 ^ 32 := by
  have hlen := s.IN_LEN.isLt
  have hmul := succ_encBlocks_mul_le s
  rcases blockSize_cases s.WSEL with h | h | h <;> rw [h] at hmul <;> omega

theorem encLoopState_of_lt {s : State} {n : Nat} (h : n < encBlocks s) :
    encLoopState s n = toPhase .E_LOAD (setRC (s.R.toNat + 1) (encProgress s n)) := by
  have hBI := toNat_BI_encProgress (s := s) (h.trans (encBlocks_lt s))
  exact if_pos (hBI.trans_lt h)

theorem encLoopState_last (s : State) :
    encLoopState s (encBlocks s) = okEnd (setOutLen ((encBlocks s + 1) * blockSize s.WSEL)
      (setRC (s.R.toNat + 1) (encProgress s (encBlocks s)))) := by
  have hBI := toNat_BI_encProgress (s := s) (encBlocks_lt s)
  exact if_neg (hBI.trans_ge le_rfl).not_gt

/-- The block loop of ENC, all blocks. -/
theorem busyRun_encLoop {s : State} (hbusy : s.STATUS.BUSY = true) :
    BusyRun (encBlocks s * (1 + (s.R.toNat + 1))) (encLoopState s 0) (encLoopState s (encBlocks s)) := by
  refine busyRun_loop fun n hn => ?_
  have hblock := busyRun_encBlock (s := encProgress s n) hbusy (s.R.toNat + 1)
  rw [encBlock_encProgress (hn.trans (encBlocks_lt s))] at hblock
  rw [encLoopState_of_lt hn]
  exact hblock

/-- ENC: row E_IV, `R + 1` steps of row E_IVROUND, and the block loop. -/
theorem busyRun_enc {s : State} (hbusy : s.STATUS.BUSY = true) :
    BusyRun (1 + (s.R.toNat + 1) + encBlocks s * (1 + (s.R.toNat + 1))) (toPhase .E_IV s) (okEnd (encBody s)) := by
  have hdbusy : (drawIv s).STATUS.BUSY = true := by rwa [drawIv_STATUS]
  have hiv : BusyRun 1 (toPhase .E_IV s) (atRound (whiten (drawIv s) ((drawIv s).CV0, (drawIv s).CV1)) 1
      (toPhase .E_IVROUND (drawIv s))) := by
    refine busyRun_one hbusy (congrArg Host.Outcome.next ?_)
    rw [ivRow, drawIv_toPhase]
    rfl
  have hrounds := busyRun_encryptPair (s := toPhase .E_IVROUND (drawIv s)) hdbusy (fun _ _ => rfl)
    ((drawIv s).CV0, (drawIv s).CV1)
  rw [encryptPair_toPhase] at hrounds
  have hfirst : toPhase .E_LOAD (setRC (s.R.toNat + 1) (encProgress (drawIv s) 0)) = encLoopState (drawIv s) 0 := by
    rw [encLoopState_of_lt (encBlocks_pos _), drawIv_R]
  have hloop := busyRun_encLoop hdbusy
  rw [← hfirst, encLoopState_last, encBlocks_drawIv, drawIv_R, drawIv_WSEL] at hloop
  rw [okEnd_encBody_eq]
  rw [toPhase_R, drawIv_R] at hrounds
  exact (hiv.trans hrounds).trans hloop

/-! ### DEC (rows D_IVLOAD to D_UNPAD) -/

@[simp] theorem decryptPair_setRC (k : Nat) (s : State) (q : Word × Word) :
    decryptPair (setRC k s) q = decryptPair s q :=
  decryptPair_congr (s := setRC k s) (t := s) rfl rfl (fun _ _ => rfl) q

/-- A pass of DEC's block loop whose decrypted pair is `p`. -/
def decPass (p : Word × Word) (s : State) : State :=
  let d := xorPair p (s.CV0, s.CV1)
  { setCV (loadPair s .input (s.BI.toNat * blockSize s.WSEL))
      (storePair ((s.BI.toNat - 1) * blockSize s.WSEL) d.1 d.2 (setXY p s)) with BI := s.BI + 1 }

theorem decBlock_eq_decPass (s : State) :
    decBlock s = decPass (decryptPair s (loadPair s .input (s.BI.toNat * blockSize s.WSEL))) s := rfl

/-- The row at which DEC goes on when its block index is `i` and it has `n` data blocks. -/
def decNextPhase (i n : Nat) : Phase := if i ≤ n then .D_LOAD else .D_UNPAD

/-- The second read of the ciphertext pair finds what the first has found: DEC writes OUT only. -/
theorem decBlockEnd_eq_decPass (s : State) :
    decBlockEnd s =
      toPhase (decNextPhase (s.BI + 1).toNat (decBlocks s)) (decPass (unwhiten s (workPair s)) s) := rfl

/-- What row D_ROUND does after the un-rounds of a block is a pass with the decrypted pair. -/
theorem decBlockEnd_atRound (c : Word × Word) (k : Nat) (s : State) :
    decBlockEnd (atRound (decRounds (toPhase .D_ROUND (setRC k s)) s.R.toNat c) 0 (toPhase .D_ROUND (setRC k s))) =
      toPhase (decNextPhase (s.BI + 1).toNat (decBlocks s)) (setRC 0 (decPass (decryptPair s c) s)) := by
  have hpair : decryptPair (toPhase .D_ROUND (setRC k s)) c = decryptPair s c := by
    rw [decryptPair_toPhase, decryptPair_setRC]
  rw [decBlockEnd_eq_decPass, ← hpair]
  rfl

/-- A block of DEC: row D_LOAD and `R + 1` steps of row D_ROUND. -/
theorem busyRun_decBlock {s : State} (hbusy : s.STATUS.BUSY = true) (k : Nat) :
    BusyRun (1 + (s.R.toNat + 1)) (toPhase .D_LOAD (setRC k s))
      (toPhase (decNextPhase (s.BI + 1).toNat (decBlocks s)) (setRC 0 (decBlock s))) := by
  have hload : BusyRun 1 (toPhase .D_LOAD (setRC k s))
      (atRound (loadPair s .input (s.BI.toNat * blockSize s.WSEL)) s.R.toNat (toPhase .D_ROUND (setRC k s))) := by
    refine busyRun_one hbusy (congrArg Host.Outcome.next ?_)
    rw [show s.R.toNat = (toPhase .D_ROUND (setRC k s)).R.toNat from rfl, atRound_R]
    rfl
  have hrounds := busyRun_decRounds (s := toPhase .D_ROUND (setRC k s)) (after := decBlockEnd) hbusy (fun _ _ => rfl)
    s.R.isLt (loadPair s .input (s.BI.toNat * blockSize s.WSEL))
  rw [decBlockEnd_atRound, ← decBlock_eq_decPass] at hrounds
  exact hload.trans hrounds

/-- The state of DEC after `n` passes of its block loop. -/
def decLoopState (s : State) (n : Nat) : State :=
  toPhase (decNextPhase (n + 1) (decBlocks s)) (setRC 0 (decProgress s n))

theorem toNat_BI_decProgress {s : State} {n : Nat} (hn : n + 1 < 2 ^ 32) : (decProgress s n).BI.toNat = n + 1 := by
  rw [decProgress, BitVec.toNat_ofNat, Nat.mod_eq_of_lt hn]

/-- The block index has room to spare. -/
theorem decBlocks_succ_lt (s : State) : decBlocks s + 1 < 2 ^ 32 := by
  have hlen := s.IN_LEN.isLt
  unfold decBlocks
  rcases blockSize_cases s.WSEL with h | h | h <;> rw [h] <;> omega

/-- The block loop of DEC, all data blocks. -/
theorem busyRun_decLoop {s : State} (hbusy : s.STATUS.BUSY = true) :
    BusyRun (decBlocks s * (1 + (s.R.toNat + 1))) (decLoopState s 0) (decLoopState s (decBlocks s)) := by
  refine busyRun_loop fun n hn => ?_
  have hlt := decBlocks_succ_lt s
  have hblock := busyRun_decBlock (s := decProgress s n) hbusy 0
  have hnext : (decProgress s n).BI + 1 = (decProgress s (n + 1)).BI := (BitVec.ofNat_add ..).symm
  rw [hnext, toNat_BI_decProgress (by omega), decBlock_decProgress (by omega)] at hblock
  have hphase : decNextPhase (n + 1) (decBlocks s) = .D_LOAD := if_pos hn
  rw [decLoopState, hphase]
  exact hblock

/-- DEC: row D_IVLOAD, `R + 1` steps of row D_IVROUND, the block loop, and row D_UNPAD. -/
theorem busyRun_dec {s : State} (hbusy : s.STATUS.BUSY = true) (hpos : 1 ≤ decBlocks s) :
    BusyRun (1 + (s.R.toNat + 1) + decBlocks s * (1 + (s.R.toNat + 1)) + 1) (toPhase .D_IVLOAD s)
      (okEnd (decBody s)) := by
  have hload : BusyRun 1 (toPhase .D_IVLOAD s)
      (atRound (loadPair s .input 0) s.R.toNat (toPhase .D_IVROUND s)) := by
    refine busyRun_one hbusy (congrArg Host.Outcome.next ?_)
    rw [show s.R.toNat = (toPhase .D_IVROUND s).R.toNat from rfl, atRound_R]
    rfl
  have hrounds := busyRun_decRounds (s := toPhase .D_IVROUND s) hbusy (fun _ _ => rfl) s.R.isLt (loadPair s .input 0)
  have hfirst : decLoopState s 0 = toPhase .D_LOAD (setRC 0 (recoverIv s)) := by
    have hphase : decNextPhase (0 + 1) (decBlocks s) = .D_LOAD := if_pos hpos
    rw [decLoopState, hphase, recoverIv_eq_decProgress]
  have hloop := busyRun_decLoop hbusy
  have hpair := decryptPair_toPhase .D_IVROUND s (loadPair s .input 0)
  rw [hfirst, recoverIv, ← hpair] at hloop
  have hphase : decNextPhase (decBlocks s + 1) (decBlocks s) = .D_UNPAD := if_neg (Nat.not_succ_le_self _)
  have hunpad : BusyRun 1 (decLoopState s (decBlocks s)) (okEnd (decBody s)) := by
    rw [decLoopState, hphase, decBody, decBlock_iterate (decBlocks_lt s)]
    exact busyRun_one hbusy rfl
  exact ((hload.trans hrounds).trans hloop).trans hunpad

end Sys2Proof.Proofs

/-! PROOFS. The steps of INIT, and of every command: the sequencer's run and the command as one piece (spec
45_system R254, R255). -/

namespace Sys2Proof.Proofs

open Sys2Proof Sys2Proof.Machine

/-! ### INIT: the hash requests (row K_HASH) -/

/-- Tables with the same entries are the same table. -/
theorem eq_of_tableGet_eq {α : Type} {n : Nat} {t u : Vector α n} (d : α)
    (h : ∀ i, i < n → tableGet t i d = tableGet u i d) : t = u := by
  apply Vector.ext
  intro i hi
  simpa [tableGet, hi] using h i hi

theorem getD_drop (l : List Byte) (m j : Nat) : (l.drop m).getD j 0 = l.getD (m + j) 0 := by
  rw [List.getD_eq_getElem?_getD, List.getD_eq_getElem?_getD, List.getElem?_drop]

/-- KEY after `k` answers: as many trailing bytes of the derived key as the answers cover stand in their places. -/
def keyAfter (s : State) (k : Nat) : Vector Byte 255 :=
  tableFill s.KEY (s.KLEN.toNat - k * s.platform.HLEN)
    ((kdf s.platform (password s) s.KLEN.toNat).drop (s.KLEN.toNat - k * s.platform.HLEN))

/-- HBUF after `k` answers. -/
def hbufAfter (s : State) : Nat → List Byte
  | 0 => s.HBUF
  | k + 1 => (hash s.platform)^[k + 1] (password s)

/-- The state of INIT after `k` hash requests; `s` is the state in which the parameters have been latched. -/
def hashProgress (s : State) (k : Nat) : State :=
  { s with KEY := keyAfter s k, HBUF := hbufAfter s k, HC := BitVec.ofNat 8 k }

/-- A request is for the password first, then for the answer before. -/
theorem hbufAfter_succ (s : State) {k : Nat} (hk : k < 2 ^ 8) :
    (if BitVec.ofNat 8 k = 0 then hash s.platform (password s) else hash s.platform (hbufAfter s k)) =
      hbufAfter s (k + 1) := by
  cases k with
  | zero => rfl
  | succ k =>
    have hne : BitVec.ofNat 8 (k + 1) ≠ 0 := by
      intro h
      have hzero := congrArg BitVec.toNat h
      rw [BitVec.toNat_ofNat, Nat.mod_eq_of_lt hk] at hzero
      exact Nat.succ_ne_zero k hzero
    rw [if_neg hne, hbufAfter, hbufAfter, Function.iterate_succ_apply' _ (k + 1)]

/-- The row at which INIT goes on when it has made `k` of its `n` requests. -/
def hashNextPhase (k n : Nat) : Phase := if k < n then .K_HASH else .K_SPLIT

/-- One request, whose answer is `h`. -/
def hashPass (h : List Byte) (s : State) : State := { storeChunk s.HC.toNat h s with HBUF := h, HC := s.HC + 1 }

theorem hashRow_eq_hashPass (s : State) :
    hashRow s = toPhase (hashNextPhase (s.HC + 1).toNat (hashCount s.platform s.KLEN.toNat))
      (hashPass (if s.HC = 0 then hash s.platform (password s) else hash s.platform s.HBUF) s) := rfl

section
variable {s : State} (hp : 1 ≤ s.platform.HLEN) (hklen : 1 ≤ s.KLEN.toNat)
include hp hklen

theorem tableGet_keyAfter (k i : Nat) : tableGet (keyAfter s k) i 0 =
    if s.KLEN.toNat - k * s.platform.HLEN ≤ i ∧ i < s.KLEN.toNat then
      (kdf s.platform (password s) s.KLEN.toNat).getD i 0 else tableGet s.KEY i 0 := by
  have hlen := length_kdf (password s) hp hklen
  have hbyte := s.KLEN.isLt
  rw [keyAfter, tableGet_tableFill, List.length_drop, hlen, getD_drop]
  by_cases h : s.KLEN.toNat - k * s.platform.HLEN ≤ i ∧ i < s.KLEN.toNat
  · rw [if_pos h, if_pos (by omega), Nat.add_sub_cancel' h.1]
  · rw [if_neg h, if_neg (by omega)]

theorem keyAfter_zero : keyAfter s 0 = s.KEY := by
  refine eq_of_tableGet_eq 0 fun i _ => ?_
  rw [tableGet_keyAfter hp hklen, if_neg (by omega)]

/-- Chunk `k` fills the places between those of the chunks before it and the start of the key. -/
theorem keyAfter_succ (k : Nat) : keyAfter s (k + 1) =
    tableFill (keyAfter s k) (s.KLEN.toNat - (k + 1) * s.platform.HLEN)
      (((hash s.platform)^[k + 1] (password s)).drop ((k + 1) * s.platform.HLEN - s.KLEN.toNat)) := by
  have hchunk : ((hash s.platform)^[k + 1] (password s)).length = s.platform.HLEN := by
    rw [Function.iterate_succ_apply', length_hash]
  have hbyte (q : Nat) := getD_kdf (password s) (klen := s.KLEN.toNat) (k := k) (q := q) hp
  have hlen := s.KLEN.isLt
  have hmul : (k + 1) * s.platform.HLEN = k * s.platform.HLEN + s.platform.HLEN := Nat.succ_mul ..
  refine eq_of_tableGet_eq 0 fun i hi => ?_
  rw [tableGet_keyAfter hp hklen, tableGet_tableFill, tableGet_keyAfter hp hklen, List.length_drop, hchunk, getD_drop]
  rw [hmul] at hbyte ⊢
  generalize k * s.platform.HLEN = past at *
  by_cases hnew : s.KLEN.toNat - (past + s.platform.HLEN) ≤ i ∧ i + past < s.KLEN.toNat
  · have hq := hbyte (i + past + s.platform.HLEN - s.KLEN.toNat) (by omega) (by omega)
    have hplace : s.KLEN.toNat + (i + past + s.platform.HLEN - s.KLEN.toNat) - (past + s.platform.HLEN) = i := by omega
    have hoff : past + s.platform.HLEN - s.KLEN.toNat + (i - (s.KLEN.toNat - (past + s.platform.HLEN))) =
        i + past + s.platform.HLEN - s.KLEN.toNat := by omega
    rw [hplace] at hq
    rw [if_pos (by omega), if_pos (by omega), hoff, hq]
  · rw [if_neg (c := _ ∧ _ ∧ _) (by omega)]
    by_cases hold : s.KLEN.toNat - past ≤ i ∧ i < s.KLEN.toNat
    · rw [if_pos hold, if_pos (by omega)]
    · rw [if_neg hold, if_neg (by omega)]

/-- The number of requests fits the counter HC. -/
theorem hashCount_lt : hashCount s.platform s.KLEN.toNat < 2 ^ 8 := by
  have hlen := s.KLEN.isLt
  have hle : hashCount s.platform s.KLEN.toNat ≤ s.KLEN.toNat := by
    refine Nat.le_of_lt_succ (Nat.div_lt_of_lt_mul ?_)
    have hmul : s.KLEN.toNat ≤ s.platform.HLEN * s.KLEN.toNat := Nat.le_mul_of_pos_left _ hp
    rw [Nat.mul_succ]
    omega
  omega

theorem hashProgress_zero : hashProgress s 0 = { s with HC := 0 } := by
  rw [hashProgress, keyAfter_zero hp hklen]
  rfl

/-- After the last request KEY holds the whole derived key. -/
theorem hashProgress_last : hashProgress s (hashCount s.platform s.KLEN.toNat) = deriveKey s := by
  obtain ⟨m, hm⟩ := Nat.exists_eq_add_of_le' (show 1 ≤ hashCount s.platform s.KLEN.toNat from ceilDiv_pos hklen hp)
  have hcover : s.KLEN.toNat - hashCount s.platform s.KLEN.toNat * s.platform.HLEN = 0 :=
    Nat.sub_eq_zero_of_le (le_ceilDiv_mul s.KLEN.toNat hp)
  rw [hashProgress, keyAfter, hcover, List.drop_zero, deriveKey, hm, Nat.add_sub_cancel, stretch_fst]
  rfl

theorem hashRow_hashProgress {k : Nat} (hk : k < hashCount s.platform s.KLEN.toNat) :
    hashRow (toPhase .K_HASH (hashProgress s k)) =
      toPhase (hashNextPhase (k + 1) (hashCount s.platform s.KLEN.toNat)) (hashProgress s (k + 1)) := by
  have hlt := hashCount_lt hp hklen
  have hHC (j : Nat) (hj : j ≤ k + 1) : (BitVec.ofNat 8 j).toNat = j := by
    rw [BitVec.toNat_ofNat, Nat.mod_eq_of_lt (by omega)]
  have hnext : (toPhase .K_HASH (hashProgress s k)).HC + 1 = BitVec.ofNat 8 (k + 1) := (BitVec.ofNat_add ..).symm
  have hanswer := hbufAfter_succ s (k := k) (by omega)
  have hpass : hashPass (hbufAfter s (k + 1)) (toPhase .K_HASH (hashProgress s k)) =
      toPhase .K_HASH (hashProgress s (k + 1)) := by
    have hcount : (toPhase .K_HASH (hashProgress s k)).HC.toNat = k := hHC k (by omega)
    rw [hashPass, hnext, hcount]
    conv_rhs => rw [hashProgress, keyAfter_succ hp hklen]
    rfl
  rw [← hanswer] at hpass
  rw [hashRow_eq_hashPass, hnext, hHC (k + 1) le_rfl]
  have hphase := congrArg (toPhase (hashNextPhase (k + 1) (hashCount s.platform s.KLEN.toNat))) hpass
  exact hphase

/-- The hash requests of INIT, all of them. -/
theorem busyRun_hashLoop (hbusy : s.STATUS.BUSY = true) :
    BusyRun (hashCount s.platform s.KLEN.toNat) (toPhase .K_HASH { s with HC := 0 })
      (toPhase .K_SPLIT (deriveKey s)) := by
  have hpos : 1 ≤ hashCount s.platform s.KLEN.toNat := ceilDiv_pos hklen hp
  have hfirst : hashNextPhase 0 (hashCount s.platform s.KLEN.toNat) = .K_HASH := if_pos hpos
  have hlast : hashNextPhase (hashCount s.platform s.KLEN.toNat) (hashCount s.platform s.KLEN.toNat) = .K_SPLIT :=
    if_neg (lt_irrefl _)
  have hloop := busyRun_loop (c := 1) (n := hashCount s.platform s.KLEN.toNat)
    (f := fun k => toPhase (hashNextPhase k (hashCount s.platform s.KLEN.toNat)) (hashProgress s k)) fun k hk => by
      rw [show hashNextPhase k (hashCount s.platform s.KLEN.toNat) = .K_HASH from if_pos hk]
      exact busyRun_one hbusy (congrArg Host.Outcome.next (hashRow_hashProgress hp hklen hk))
  rw [Nat.mul_one] at hloop
  rw [hfirst, hlast, hashProgress_zero hp hklen, hashProgress_last hp hklen] at hloop
  exact hloop

end

/-! ### INIT: the mixing loop (row K_MIX) -/

/-- Where INIT goes when KN has been counted down. -/
def afterMixPass (s : State) : State := if s.KN = 0 then okEnd (setKeyed s) else s

theorem mixRow_eq (s : State) : mixRow s = afterMixPass (mixStep s) := rfl

/-- KN is 0 at the end of the loop and not before. -/
theorem mixed_KN_eq_zero_iff {s : State} {n : Nat} (hn : n ≤ mixCount s) : (mixed s n).KN = 0 ↔ n = mixCount s := by
  obtain ⟨-, -, -, hmost⟩ := mixCount_bounds s
  rw [mixed_KN, sub_eq_zero, ← BitVec.toNat_inj, BitVec.toNat_ofNat, BitVec.toNat_ofNat,
    Nat.mod_eq_of_lt (by omega), Nat.mod_eq_of_lt (by omega)]
  exact eq_comm

/-- The mixing loop, all iterations; the last also ends the command. -/
theorem busyRun_mixLoop {s : State} (hbusy : s.STATUS.BUSY = true) :
    BusyRun (mixCount s) (toPhase .K_MIX (startMix s)) (okEnd (setKeyed (mixTables s))) := by
  obtain ⟨-, -, hleast, -⟩ := mixCount_bounds s
  have hgo {n : Nat} (hn : n < mixCount s) : afterMixPass (toPhase .K_MIX (mixed s n)) = toPhase .K_MIX (mixed s n) :=
    if_neg fun h => hn.ne ((mixed_KN_eq_zero_iff hn.le).mp h)
  have hend : afterMixPass (toPhase .K_MIX (mixed s (mixCount s))) = okEnd (setKeyed (mixTables s)) :=
    (if_pos ((mixed_KN_eq_zero_iff le_rfl).mpr rfl)).trans rfl
  have hloop := busyRun_loop (c := 1) (n := mixCount s) (f := fun n => afterMixPass (toPhase .K_MIX (mixed s n)))
    fun n hn => by
      have hstatus : (mixed s n).STATUS = s.STATUS :=
        eq_of_iterate (f := State.STATUS) (g := mixStep) (fun _ => rfl) n (startMix s)
      have hmbusy : (mixed s n).STATUS.BUSY = true := by rw [hstatus, hbusy]
      rw [hgo hn, mixed_succ]
      exact busyRun_one hmbusy rfl
  rw [Nat.mul_one] at hloop
  rw [hgo (by omega), hend] at hloop
  exact hloop

/-- INIT: the hash requests, row K_SPLIT, and the mixing loop. `s` is the state in which the parameters have been
latched. -/
theorem busyRun_init {s : State} (hp : 1 ≤ s.platform.HLEN) (hklen : 1 ≤ s.KLEN.toNat) (hbusy : s.STATUS.BUSY = true) :
    BusyRun (hashCount s.platform s.KLEN.toNat + 1 + mixCount s) (toPhase .K_HASH { s with HC := 0 })
      (okEnd (setKeyed (mixTables (seedTable (splitKey (deriveKey s)))))) := by
  have hsplit : BusyRun 1 (toPhase .K_SPLIT (deriveKey s))
      (toPhase .K_MIX (startMix (seedTable (splitKey (deriveKey s))))) := busyRun_one hbusy rfl
  have hmix := busyRun_mixLoop (s := seedTable (splitKey (deriveKey s))) hbusy
  exact ((busyRun_hashLoop hp hklen hbusy).trans hsplit).trans hmix

/-! ### Every command -/

/-- When no check of a command has failed, none of its conditions of R281 to R285 holds. -/
theorem not_fails_of_check_none {i : Instr} {s : State} (hwf : WellFormed i = true) (h : check i s = none)
    (e : ErrCode) : ¬ Fails s i e := by
  obtain ⟨checks, hcheck, -, hmem⟩ := check_eq_firstError hwf s
  rw [hcheck, firstError_eq_none_iff] at h
  rw [← hmem]
  exact h e

/-- A ciphertext that passes the checks of DEC has at least two blocks. -/
theorem two_blocks_le_of_check_none {s : State} (h : check .dec s = none) : 2 * blockSize s.WSEL ≤ s.IN_LEN.toNat := by
  have hlen := not_fails_of_check_none rfl h .E_CTLEN
  simp only [Fails, failsCtLen, not_or, not_lt] at hlen
  exact hlen.2

/-- A command whose checks pass: from acceptance to its end the steps of R255 lead to the state of the one piece. -/
theorem busyRun_of_check_none {s : State} {i : Instr} (hp : s.platform.wf) (hphase : s.PHASE = .DECODE)
    (hbusy : s.STATUS.BUSY = true) (hi : decode s.OPR = .ok i) (hcheck : check i s = none) :
    BusyRun (stepCount i s) s (okEnd (bodyOf i s)) := by
  have hdecode := busyRun_decode hphase hbusy hi hcheck
  have hsingle {body : State → State} (hbody : singleStepBody i = some body) 
      (hfirst : firstWork i s = toPhase .EXEC s) : BusyRun 2 s (okEnd (bodyOf i s)) := by
    rw [hfirst] at hdecode
    exact hdecode.trans (busyRun_exec hbusy hi hbody)
  cases i <;> simp only [stepCount, hcheck]
  case pad | unpad | rotl | rotr | ldp | stp | clr => exact hsingle rfl rfl
  case encp =>
    rw [show s.R.toNat + 4 = 1 + (1 + (s.R.toNat + 1) + 1) by omega]
    exact hdecode.trans (busyRun_encp hbusy hi)
  case decp =>
    rw [show s.R.toNat + 4 = 1 + (1 + (s.R.toNat + 1) + 1) by omega]
    exact hdecode.trans (busyRun_decp hbusy hi)
  case enc =>
    rw [show 2 + (s.R.toNat + 1) + encBlocks s * (s.R.toNat + 2) =
      1 + (1 + (s.R.toNat + 1) + encBlocks s * (1 + (s.R.toNat + 1))) by ring]
    exact hdecode.trans (busyRun_enc hbusy)
  case dec =>
    rw [show 2 + (s.R.toNat + 1) + decBlocks s * (s.R.toNat + 2) + 1 =
      1 + (1 + (s.R.toNat + 1) + decBlocks s * (1 + (s.R.toNat + 1)) + 1) by ring]
    exact hdecode.trans (busyRun_dec hbusy (decBlocks_pos (two_blocks_le_of_check_none hcheck)))
  case init wsel rounds klen =>
    obtain ⟨-, ⟨w, hw⟩, hklen⟩ := of_checkInit_eq_none hcheck
    obtain ⟨-, -, hbyte⟩ := wellFormed_init (encodeInvertsDecode _ _ hi).1
    obtain ⟨-, -, -, -, hHLEN⟩ := hp
    have hlatched : (latchConfig w rounds klen s).KLEN.toNat = klen := by
      rw [latchConfig, BitVec.toNat_ofNat, Nat.mod_eq_of_lt hbyte]
    have hrun := busyRun_init (s := latchConfig w rounds klen s) hHLEN (by omega) hbusy
    rw [hlatched] at hrun
    simp only [firstWork, hw] at hdecode
    simp only [hw, bodyOf, initBody]
    rw [show 2 + hashCount s.platform klen + mixCount (latchConfig w rounds klen s) =
      1 + (hashCount s.platform klen + 1 + mixCount (latchConfig w rounds klen s)) by omega]
    exact hdecode.trans hrun

/-- Settles O9: an illegal word and a failing check end in the DECODE step; else the rows of the command, phase by
phase, do what its pseudocode does. -/
theorem sequencerRunEqualsWholeCommand : Obligations.SequencerRunEqualsWholeCommand := by
  intro s v hp hidle
  refine ⟨fun e hv => ?_, fun i hi => ?_⟩
  · rw [runCommand_of_illegal hv hidle]
    obtain ⟨hrun, -⟩ := busyRun_one (s := accept v s) rfl (seqStep_accept_of_illegal hv s)
    exact hrun
  rw [runCommand_of_decode hidle hi]
  cases hcheck : check i (accept v s) with
  | some e =>
    have hstep : seqStep (accept v s) = .next (errorEnd e (accept v s)) := by
      rw [seqStep_of_decode rfl, decodeStep_of_check_some hi hcheck]
    rw [exec_of_check_some hcheck, show stepCount i (accept v s) = 1 by simp [stepCount, hcheck]]
    exact busyRun_one rfl hstep
  | none =>
    rw [exec_of_check_none hcheck]
    exact busyRun_of_check_none hp rfl rfl hi hcheck

end Sys2Proof.Proofs

/-! PROOFS. The invariant part by part, and what each part reads of the state (spec 10_state R47). -/

namespace Sys2Proof.Proofs

open Sys2Proof Sys2Proof.Machine

/-! ### The parts of the invariant -/

/-- The parameters and the inputs. -/
def HostInv (s : State) : Prop :=
  s.platform.wf ∧ (s.PWD.wf ∧ ∀ c ∈ s.PWD, c.1 < s.platform.PWD_MAX) ∧ (s.IN.wf ∧ ∀ c ∈ s.IN, c.1 < s.platform.IN_MAX)

/-- The subkeys and the key bytes. -/
def TableInv (s : State) : Prop :=
  (∀ i, i < 512 → Fits s.WSEL (subkey s i) ∧ (subkeyCount s ≤ i → subkey s i = 0)) ∧
    ∀ i, i < 255 → s.KLEN.toNat ≤ i → tableGet s.KEY i 0 = 0

/-- OUT, OUT_LEN, the working registers and HBUF. -/
def WorkInv (s : State) : Prop :=
  (s.OUT.wf ∧ ∀ c ∈ s.OUT, c.1 < outMax s.platform) ∧ s.OUT_LEN.toNat ≤ outMax s.platform ∧
    (FitsPair s.WSEL (s.X, s.Y) ∧ FitsPair s.WSEL (s.CV0, s.CV1) ∧ FitsPair s.WSEL (s.KA, s.KB)) ∧
    s.HBUF.length = s.platform.HLEN

/-- STATUS, and BUSY against PHASE. -/
def FlagInv (s : State) : Prop :=
  (s.STATUS.BUSY = true ↔ s.PHASE ≠ .IDLE) ∧
  (s.STATUS.BUSY = true → s.STATUS.DONE = false ∧ s.STATUS.ERR = false ∧ s.STATUS.PADNV = false) ∧
  (s.STATUS.ERR = false → s.STATUS.ERRCODE = 0) ∧
  (s.STATUS.ERR = true → s.STATUS.DONE = true ∧ 1 ≤ s.STATUS.ERRCODE.toNat ∧ s.STATUS.ERRCODE.toNat ≤ 5) ∧
  (s.STATUS.PADNV = true → s.STATUS.DONE = true ∧ s.STATUS.ERR = false)

/-- What KEYED and the phases of INIT say of the engine. -/
def LifeInv (s : State) : Prop :=
  (s.STATUS.KEYED = false → s.PHASE.building = false →
    s.WSEL = .w16 ∧ s.R = 0 ∧ s.KLEN = 0 ∧ (∀ i, i < 512 → subkey s i = 0) ∧ ∀ i, i < 255 → tableGet s.KEY i 0 = 0) ∧
  (s.STATUS.KEYED = true ∨ s.PHASE.building = true → 1 ≤ s.KLEN.toNat)

/-- The loop indices of the work phases. -/
def IndexInv (s : State) : Prop :=
  (s.PHASE = .E_LOAD ∨ s.PHASE = .E_ROUND → s.BI.toNat < encBlocks s) ∧
  (s.PHASE = .D_LOAD ∨ s.PHASE = .D_ROUND → 1 ≤ s.BI.toNat ∧ s.BI.toNat ≤ decBlocks s) ∧
  (s.PHASE = .K_MIX → s.KI.toNat < subkeyCount s)

/-- The running command, and the loop indices. -/
def CommandInv (s : State) : Prop :=
  (s.PHASE ≠ .IDLE → s.PHASE ≠ .DECODE → ∃ i, decode s.OPR = .ok i ∧ s.PHASE.runs i ∧ check i s = none) ∧ IndexInv s

theorem inv_iff_parts (s : State) :
    Inv s ↔ HostInv s ∧ TableInv s ∧ WorkInv s ∧ FlagInv s ∧ LifeInv s ∧ CommandInv s := by
  constructor
  · intro h
    obtain ⟨hX, hY, hCV0, hCV1, hKA, hKB⟩ := h.hidden
    exact ⟨⟨h.platform, ⟨h.canonical .password, h.bounded .password⟩, h.canonical .input, h.bounded .input⟩,
      ⟨h.subkeys, h.keyBytes⟩,
      ⟨⟨h.canonical .output, h.bounded .output⟩, h.outLen, ⟨⟨hX, hY⟩, ⟨hCV0, hCV1⟩, hKA, hKB⟩, h.hbuf⟩,
      ⟨h.busy, h.running, h.noError, h.error, h.padnv⟩, ⟨h.unkeyed, h.keyed⟩,
      h.command, h.encIndex, h.decIndex, h.mixIndex⟩
  · rintro ⟨⟨hplatform, ⟨hpwd, hpwd'⟩, hin, hin'⟩, ⟨hsub, hkey⟩,
      ⟨⟨hout, hout'⟩, hlen, ⟨⟨hX, hY⟩, ⟨hCV0, hCV1⟩, hKA, hKB⟩, hhbuf⟩, ⟨hbusy, hrun, hno, herr, hpadnv⟩,
      ⟨hunkeyed, hkeyed⟩, hcmd, henc, hdec, hmix⟩
    exact {
      platform := hplatform
      canonical := fun b => by cases b; exacts [hpwd, hin, hout]
      bounded := fun b => by cases b; exacts [hpwd', hin', hout']
      busy := hbusy, running := hrun, noError := hno, error := herr, padnv := hpadnv
      outLen := hlen, hidden := ⟨hX, hY, hCV0, hCV1, hKA, hKB⟩, subkeys := hsub, keyBytes := hkey
      unkeyed := hunkeyed, keyed := hkeyed, hbuf := hhbuf
      command := hcmd, encIndex := henc, decIndex := hdec, mixIndex := hmix }

/-! ### What the parts read -/

theorem hostInv_congr {s t : State} (h : hostSide t = hostSide s) (hs : HostInv s) : HostInv t := by
  obtain ⟨⟨hpwd, hin, -, -⟩, -, -, hplatform, -⟩ := (hostSide_eq_iff s t).mp h
  rwa [HostInv, hpwd, hin, hplatform]

theorem tableInv_congr {s t : State} (h : engine t = engine s) (hs : TableInv s) : TableInv t := by
  obtain ⟨-, hS, hKEY, hW, hR, hK⟩ := (engine_eq_iff s t).mp h
  have hsub (i : Nat) : subkey t i = subkey s i := by rw [subkey, subkey, hS]
  rw [TableInv, subkeyCount_congr hR, hKEY, hW, hK]
  simpa only [TableInv, hsub] using hs

theorem lifeInv_congr {s t : State} (h : engine t = engine s) (hphase : t.PHASE.building = s.PHASE.building)
    (hs : LifeInv s) : LifeInv t := by
  obtain ⟨hkeyed, hS, hKEY, hW, hR, hK⟩ := (engine_eq_iff s t).mp h
  have hsub (i : Nat) : subkey t i = subkey s i := by rw [subkey, subkey, hS]
  rw [LifeInv, hkeyed, hphase, hW, hR, hK, hKEY]
  simpa only [LifeInv, hsub] using hs

/-- The checks read KEYED, the width, the lengths and the parameters. -/
theorem check_congr {s t : State} (he : engine t = engine s) (hh : hostSide t = hostSide s) (i : Instr) :
    check i t = check i s := by
  obtain ⟨hkeyed, -, -, hW, -, -⟩ := (engine_eq_iff s t).mp he
  obtain ⟨⟨-, -, hpwd, hin⟩, -, -, hplatform, -⟩ := (hostSide_eq_iff s t).mp hh
  cases i <;> simp only [check, checkInit, checkKeyed, checkMessage, checkDec, checkLdp, checkStp, notKeyed,
    inLenTooLong, hkeyed, hW, hpwd, hin, hplatform]

/-- No command is at work in IDLE and DECODE. -/
theorem commandInv_of_not_working {s : State} (h : s.PHASE = .IDLE ∨ s.PHASE = .DECODE) : CommandInv s := by
  rcases h with h | h <;> simp [CommandInv, IndexInv, h]

/-! ### What keeps OUT, OUT_LEN and the working registers in order -/

/-- A run that ends within OUT. -/
theorem workInv_memWrite_output {s : State} (h : WorkInv s) {off : Nat} {xs : List Byte}
    (hfit : off + xs.length ≤ outMax s.platform) : WorkInv (memWrite .output off xs s) := by
  obtain ⟨⟨hwf, hbound⟩, hrest⟩ := h
  refine ⟨⟨Memory.wf_putBytes hwf off xs, fun c hc => ?_⟩, hrest⟩
  rcases Memory.mem_putBytes hc with hrun | hold
  · exact hrun.2.trans_le hfit
  · exact hbound c hold

theorem workInv_storePair {s : State} (h : WorkInv s) {off : Nat} (v0 v1 : Word)
    (hfit : off + blockSize s.WSEL ≤ outMax s.platform) : WorkInv (storePair off v0 v1 s) :=
  workInv_memWrite_output h (by rwa [length_bytesOfPair])

theorem workInv_setOutLen {s : State} (h : WorkInv s) {n : Nat} (hn : n ≤ outMax s.platform) :
    WorkInv (setOutLen n s) := by
  obtain ⟨hout, -, hrest⟩ := h
  exact ⟨hout, (BitVec.toNat_ofNat n 32).trans_le ((Nat.mod_le _ _).trans hn), hrest⟩

theorem workInv_setXY {s : State} (h : WorkInv s) {p : Word × Word} (hp : FitsPair s.WSEL p) : WorkInv (setXY p s) := by
  obtain ⟨hout, hlen, ⟨-, hCV, hK⟩, hhbuf⟩ := h
  exact ⟨hout, hlen, ⟨hp, hCV, hK⟩, hhbuf⟩

theorem workInv_setCV {s : State} (h : WorkInv s) {p : Word × Word} (hp : FitsPair s.WSEL p) : WorkInv (setCV p s) := by
  obtain ⟨hout, hlen, ⟨hXY, -, hK⟩, hhbuf⟩ := h
  exact ⟨hout, hlen, ⟨hXY, hp, hK⟩, hhbuf⟩

theorem workInv_atRound {s : State} (h : WorkInv s) {p : Word × Word} (hp : FitsPair s.WSEL p) (k : Nat) :
    WorkInv (atRound p k s) := workInv_setXY h hp

theorem fitsPair_workPair {s : State} (h : WorkInv s) : FitsPair s.WSEL (workPair s) := by
  obtain ⟨-, -, ⟨hXY, -⟩, -⟩ := h
  exact hXY

theorem fitsPair_loadPair (s : State) (b : Buf) (off : Nat) : FitsPair s.WSEL (loadPair s b off) :=
  fitsPair_pairOfBytes (length_memRead ..)

theorem workInv_drawIv {s : State} (h : WorkInv s) : WorkInv (drawIv s) := by
  have hadvance {u : State} (hu : WorkInv u) : WorkInv (rngAdvance u) := by
    simpa only [WorkInv, rngAdvance_OUT, rngAdvance_platform, rngAdvance_OUT_LEN, rngAdvance_WSEL, rngAdvance_X,
      rngAdvance_Y, rngAdvance_CV0, rngAdvance_CV1, rngAdvance_KA, rngAdvance_KB, rngAdvance_HBUF] using hu
  have hW : (rngAdvance (rngAdvance s)).WSEL = s.WSEL := by rw [rngAdvance_WSEL, rngAdvance_WSEL]
  refine workInv_setCV (hadvance (hadvance h)) ?_
  rw [hW]
  exact ⟨fits_toWord _ _, fits_toWord _ _⟩

/-- A round, or what the row does behind the last. -/
theorem workInv_encRoundStep {s : State} (h : WorkInv s) {after : State → State} (hafter : WorkInv (after s)) :
    WorkInv (encRoundStep after s) := by
  unfold encRoundStep
  split
  · exact workInv_setXY h (fitsPair_encRound s _ _)
  · exact hafter

/-- An un-round, or what the row does behind the last. -/
theorem workInv_decRoundStep {s : State} (h : WorkInv s) {after : State → State} (hafter : WorkInv (after s)) :
    WorkInv (decRoundStep after s) := by
  unfold decRoundStep
  split
  · exact workInv_setXY h (fitsPair_decRound (fitsPair_workPair h) _)
  · exact hafter

/-! ### What a running command has checked -/

theorem keyed_of_check_none {i : Instr} {s : State} (hwf : WellFormed i = true) (h : check i s = none)
    (hinit : ∀ a b c, i ≠ .init a b c) (hclr : i ≠ .clr) : s.STATUS.KEYED = true := by
  have hstate := not_fails_of_check_none hwf h .E_STATE
  cases i with
  | init a b c => exact absurd rfl (hinit a b c)
  | clr => exact absurd rfl hclr
  | _ => simpa [Fails, failsState] using hstate

theorem inLen_le_of_check_none {i : Instr} {s : State} (h : check i s = none)
    (hi : i = .enc ∨ i = .dec ∨ i = .pad ∨ i = .unpad) : s.IN_LEN.toNat ≤ s.platform.IN_MAX := by
  rcases hi with rfl | rfl | rfl | rfl <;>
    simpa [Fails, failsRange] using not_fails_of_check_none rfl h .E_RANGE

theorem offset_le_of_check_none {off : Nat} {s : State} (hwf : WellFormed (.stp off) = true)
    (h : check (.stp off) s = none) : off + blockSize s.WSEL ≤ outMax s.platform := by
  simpa [Fails, failsRange] using not_fails_of_check_none hwf h .E_RANGE

end Sys2Proof.Proofs

/-! PROOFS. Every row of the phase table keeps the invariant (spec 10_state R47, 45_system R254). -/

namespace Sys2Proof.Proofs

open Sys2Proof Sys2Proof.Machine

/-! ### How a row leaves PHASE, STATUS and the loop indices -/

/-- A row ends its command, or goes on to a phase that has a row for it, with its indices in range. -/
def RowShape (i : Instr) (s t : State) : Prop :=
  (t.PHASE = .IDLE ∧ t.STATUS.BUSY = false ∧ t.STATUS.DONE = true) ∨
    (t.STATUS = s.STATUS ∧ t.PHASE.runs i ∧ t.PHASE.building = false ∧ IndexInv t)

theorem rowShape_okEnd (i : Instr) (s t : State) : RowShape i s (okEnd t) := .inl ⟨rfl, rfl, rfl⟩

/-- A phase with no loop index. -/
theorem rowShape_toPhase {i : Instr} {p : Phase} {s t : State} (hstatus : t.STATUS = s.STATUS) (hruns : p.runs i)
    (hbuilding : p.building = false)
    (hp : p ≠ .E_LOAD ∧ p ≠ .E_ROUND ∧ p ≠ .D_LOAD ∧ p ≠ .D_ROUND ∧ p ≠ .K_MIX) : RowShape i s (toPhase p t) := by
  refine .inr ⟨hstatus, hruns, hbuilding, ?_⟩
  simp [IndexInv, hp]

/-- A row that goes on in its own phase, its indices as they were. -/
theorem rowShape_self {i : Instr} {s : State} (hruns : s.PHASE.runs i) (hbuilding : s.PHASE.building = false)
    (hindex : IndexInv s) (p : Word × Word) (rc : BitVec 9) : RowShape i s { setXY p s with RC := rc } :=
  .inr ⟨rfl, hruns, hbuilding, hindex⟩

theorem rowShape_encRoundStep {i : Instr} {s : State} {after : State → State} (hruns : s.PHASE.runs i)
    (hbuilding : s.PHASE.building = false) (hindex : IndexInv s) (hafter : RowShape i s (after s)) :
    RowShape i s (encRoundStep after s) := by
  unfold encRoundStep
  split
  · exact rowShape_self hruns hbuilding hindex _ _
  · exact hafter

theorem rowShape_decRoundStep {i : Instr} {s : State} {after : State → State} (hruns : s.PHASE.runs i)
    (hbuilding : s.PHASE.building = false) (hindex : IndexInv s) (hafter : RowShape i s (after s)) :
    RowShape i s (decRoundStep after s) := by
  unfold decRoundStep
  split
  · exact rowShape_self hruns hbuilding hindex _ _
  · exact hafter

/-! ### The invariant of a running command -/

theorem ne_idle_of_runs {p : Phase} {i : Instr} (h : p.runs i) : p ≠ .IDLE ∧ p ≠ .DECODE := by
  constructor <;> rintro rfl <;> exact h

theorem busy_of_ne_idle {s : State} (h : Inv s) (hphase : s.PHASE ≠ .IDLE) : s.STATUS.BUSY = true := h.busy.mpr hphase

/-- The flags after the end of a command that ran without an error. -/
theorem flagInv_of_end {s t : State} (h : FlagInv s) (hbusy : s.STATUS.BUSY = true) (hphase : t.PHASE = .IDLE)
    (hidle : t.STATUS.BUSY = false) (hdone : t.STATUS.DONE = true) (herr : reportedError t = reportedError s) :
    FlagInv t := by
  obtain ⟨-, hrun, hno, -⟩ := h
  obtain ⟨-, hs, -⟩ := hrun hbusy
  obtain ⟨hERR, hCODE⟩ := (reportedError_eq_iff s t).mp herr
  rw [hs] at hERR
  simp [FlagInv, hphase, hidle, hdone, hERR, hCODE, hno hs]

/-- The flags of a command that goes on. -/
theorem flagInv_of_continue {s t : State} (h : FlagInv s) (hbusy : s.STATUS.BUSY = true) (hphase : t.PHASE ≠ .IDLE)
    (hstatus : t.STATUS = s.STATUS) : FlagInv t := by
  obtain ⟨-, hrest⟩ := h
  rw [FlagInv, hstatus]
  exact ⟨iff_of_true hbusy hphase, hrest⟩

/-- A row of a command on a keyed engine, CLR apart: the frames of the sequencer leave only OUT, the working registers
and the phase to look at. -/
theorem inv_of_keyed_row {s t : State} {i : Instr} (h : Inv s) (hi : decode s.OPR = .ok i) (hruns : s.PHASE.runs i)
    (hcheck : check i s = none) (hbuilding : s.PHASE.building = false) (hstep : seqStep s = .next t)
    (he : engine t = engine s) (hwork : WorkInv t) (hshape : RowShape i s t) : Inv t := by
  obtain ⟨hhost, htab, -, hflag, hlife, -⟩ := (inv_iff_parts s).mp h
  obtain ⟨hidle, hdecode⟩ := ne_idle_of_runs hruns
  have hh := hostSide_seqStep hstep
  have hbusy := busy_of_ne_idle h hidle
  rw [inv_iff_parts]
  refine ⟨hostInv_congr hh hhost, tableInv_congr he htab, hwork, ?_⟩
  rcases hshape with ⟨hphase, hend, hdone⟩ | ⟨hstatus, hruns', hbuilding', hindex⟩
  · exact ⟨flagInv_of_end hflag hbusy hphase hend hdone (reportedError_seqStep hdecode hstep),
      lifeInv_congr he (by rw [hphase, hbuilding]; rfl) hlife, commandInv_of_not_working (.inl hphase)⟩
  · obtain ⟨hidle', -⟩ := ne_idle_of_runs hruns'
    obtain ⟨-, hOPR, -⟩ := (hostSide_eq_iff s t).mp hh
    refine ⟨flagInv_of_continue hflag hbusy hidle' hstatus, lifeInv_congr he (hbuilding'.trans hbuilding.symm) hlife,
      fun _ _ => ⟨i, by rw [hOPR, hi], hruns', by rw [check_congr he hh, hcheck]⟩, hindex⟩

/-! ### The single-step commands (row EXEC) -/

/-- A pad fits behind a message within IN. -/
theorem length_pad_message_le {s : State} (hlen : s.IN_LEN.toNat ≤ s.platform.IN_MAX) :
    (pad s.WSEL (message s)).length ≤ outMax s.platform := by
  have hpad := padLength_le_sixteen s.WSEL s.IN_LEN.toNat
  rw [length_pad, length_message, outMax]
  omega

theorem workInv_bodyOf_singleStep {i : Instr} {s : State} (h : WorkInv s) (hwf : WellFormed i = true)
    (hcheck : check i s = none) (hsingle : (singleStepBody i).isSome = true) : WorkInv (bodyOf i s) := by
  cases i
  case init | enc | dec | encp | decp => simp [singleStepBody] at hsingle
  case rotl | rotr | ldp => exact h
  case stp off => exact workInv_storePair h _ _ (offset_le_of_check_none hwf hcheck)
  case pad =>
    have hlen := length_pad_message_le (inLen_le_of_check_none hcheck (by simp))
    have hmem : WorkInv (memWrite .output 0 (pad s.WSEL (message s)) s) := workInv_memWrite_output h (by omega)
    exact workInv_setOutLen hmem hlen
  case unpad =>
    have hlen := inLen_le_of_check_none hcheck (by simp)
    have hstrip := length_unpad_le (message s)
    rw [length_message] at hstrip
    have hmem : WorkInv (memWrite .output 0 (message s) s) :=
      workInv_memWrite_output h (by rw [length_message, outMax]; omega)
    exact workInv_setOutLen (n := (unpad (message s)).1.length) hmem
      (show _ ≤ s.platform.IN_MAX + 32 by omega)
  case clr =>
    obtain ⟨hout, -, -, -⟩ := h
    have hzero := fits_zero .w16
    exact ⟨hout, Nat.zero_le _, ⟨⟨hzero, hzero⟩, ⟨hzero, hzero⟩, hzero, hzero⟩, List.length_replicate⟩

end Sys2Proof.Proofs

/-! PROOFS. The rows of the commands on a keyed engine keep the invariant (spec 45_system R254, 10_state R47). -/

namespace Sys2Proof.Proofs

open Sys2Proof Sys2Proof.Machine

/-! ### The loop indices -/

theorem indexInv_of_encPhase {s : State} (hphase : s.PHASE = .E_LOAD ∨ s.PHASE = .E_ROUND)
    (hlt : s.BI.toNat < encBlocks s) : IndexInv s := by
  rcases hphase with hphase | hphase <;> simp [IndexInv, hphase, hlt]

theorem indexInv_of_decPhase {s : State} (hphase : s.PHASE = .D_LOAD ∨ s.PHASE = .D_ROUND)
    (hpos : 1 ≤ s.BI.toNat) (hle : s.BI.toNat ≤ decBlocks s) : IndexInv s := by
  rcases hphase with hphase | hphase <;> simp [IndexInv, hphase, hpos, hle]

theorem indexInv_of_mixPhase {s : State} (hphase : s.PHASE = .K_MIX) (hlt : s.KI.toNat < subkeyCount s) :
    IndexInv s := by
  simp [IndexInv, hphase, hlt]

/-! ### What each row does -/

/-- A row leaves OUT, OUT_LEN and the working registers in order, and ends the command or goes on with it. -/
def RowKeeps (i : Instr) (s t : State) : Prop := WorkInv t ∧ RowShape i s t

theorem rowKeeps_encRoundStep {i : Instr} {s : State} {after : State → State} (h : WorkInv s) (hruns : s.PHASE.runs i)
    (hbuilding : s.PHASE.building = false) (hindex : IndexInv s) (hafter : RowKeeps i s (after s)) :
    RowKeeps i s (encRoundStep after s) :=
  ⟨workInv_encRoundStep h hafter.1, rowShape_encRoundStep hruns hbuilding hindex hafter.2⟩

theorem rowKeeps_decRoundStep {i : Instr} {s : State} {after : State → State} (h : WorkInv s) (hruns : s.PHASE.runs i)
    (hbuilding : s.PHASE.building = false) (hindex : IndexInv s) (hafter : RowKeeps i s (after s)) :
    RowKeeps i s (decRoundStep after s) :=
  ⟨workInv_decRoundStep h hafter.1, rowShape_decRoundStep hruns hbuilding hindex hafter.2⟩

section
variable {s : State} (h : WorkInv s)
include h

/-- Row E_IV. -/
theorem rowKeeps_ivRow : RowKeeps .enc s (ivRow s) :=
  ⟨workInv_atRound (workInv_drawIv h) (fitsPair_whiten _ _) 1,
    rowShape_toPhase (drawIv_STATUS s) rfl rfl (by decide)⟩

/-- Row E_IVROUND after the last round: the encrypted IV is block 0 of OUT. -/
theorem rowKeeps_ivEnd : RowKeeps .enc s (toPhase .E_LOAD { storePair 0 s.X s.Y s with BI := 0 }) := by
  have hfit : 0 + blockSize s.WSEL ≤ outMax s.platform := by
    rw [outMax]
    rcases blockSize_cases s.WSEL with hbs | hbs | hbs <;> omega
  exact ⟨workInv_storePair h s.X s.Y hfit, .inr ⟨rfl, rfl, rfl,
    indexInv_of_encPhase (.inl rfl) (encBlocks_pos s)⟩⟩

/-- Row E_LOAD. -/
theorem rowKeeps_encLoadRow (hBI : s.BI.toNat < encBlocks s) : RowKeeps .enc s (encLoadRow s) :=
  ⟨workInv_atRound h (fitsPair_whiten _ _) 1, .inr ⟨rfl, rfl, rfl, indexInv_of_encPhase (.inr rfl) hBI⟩⟩

/-- Row E_ROUND after the last round of a block: the ciphertext block lies within OUT. -/
theorem rowKeeps_encBlockEnd (hlen : s.IN_LEN.toNat ≤ s.platform.IN_MAX) (hBI : s.BI.toNat < encBlocks s) :
    RowKeeps .enc s (encBlockEnd s) := by
  have hall := succ_encBlocks_mul_le s
  have hmul : (s.BI.toNat + 1 + 1) * blockSize s.WSEL ≤ (encBlocks s + 1) * blockSize s.WSEL :=
    Nat.mul_le_mul_right _ (by omega)
  rw [Nat.succ_mul (s.BI.toNat + 1)] at hmul
  have hlast : (encBlocks s + 1) * blockSize s.WSEL ≤ outMax s.platform := by rw [outMax]; omega
  have hfit : (s.BI.toNat + 1) * blockSize s.WSEL + blockSize s.WSEL ≤ outMax s.platform := by omega
  have hp := fitsPair_workPair h
  have hpass : WorkInv (encPass (workPair s) s) :=
    workInv_setCV (workInv_storePair (workInv_setXY h hp) _ _ hfit) hp
  rw [encBlockEnd_eq_encPass, afterEncPass]
  split
  case isTrue hnext => exact ⟨hpass, .inr ⟨rfl, rfl, rfl, indexInv_of_encPhase (.inl rfl) hnext⟩⟩
  case isFalse =>
    exact ⟨workInv_setOutLen hpass hlast, rowShape_okEnd _ _ _⟩

/-- Row D_IVLOAD. -/
theorem rowKeeps_decIvLoadRow : RowKeeps .dec s (decIvLoadRow s) :=
  ⟨workInv_setXY h (fitsPair_loadPair s .input 0), rowShape_toPhase rfl rfl rfl (by decide)⟩

/-- Row D_IVROUND after the last un-round: the clear IV is the chaining value. -/
theorem rowKeeps_decIvEnd (hpos : 1 ≤ decBlocks s) : RowKeeps .dec s
    (toPhase .D_LOAD { setCV (unwhiten s (workPair s)) (setXY (unwhiten s (workPair s)) s) with BI := 1 }) := by
  have hp := fitsPair_unwhiten s (workPair s)
  exact ⟨workInv_setCV (workInv_setXY h hp) hp, .inr ⟨rfl, rfl, rfl, indexInv_of_decPhase (.inl rfl) le_rfl hpos⟩⟩

/-- Row D_LOAD. -/
theorem rowKeeps_decLoadRow (hpos : 1 ≤ s.BI.toNat) (hle : s.BI.toNat ≤ decBlocks s) : RowKeeps .dec s (decLoadRow s) :=
  ⟨workInv_setXY h (fitsPair_loadPair s .input _), .inr ⟨rfl, rfl, rfl, indexInv_of_decPhase (.inr rfl) hpos hle⟩⟩

/-- Row D_ROUND after the last un-round of a block: the plaintext block lies within OUT. -/
theorem rowKeeps_decBlockEnd (hlen : s.IN_LEN.toNat ≤ s.platform.IN_MAX) (hpos : 1 ≤ s.BI.toNat)
    (hle : s.BI.toNat ≤ decBlocks s) : RowKeeps .dec s (decBlockEnd s) := by
  have hblocks := decBlocks_succ_lt s
  have hall : (s.BI.toNat - 1) * blockSize s.WSEL + blockSize s.WSEL ≤ s.IN_LEN.toNat := by
    rw [← Nat.succ_mul, Nat.succ_eq_add_one, Nat.sub_add_cancel hpos]
    exact (Nat.mul_le_mul_right _ (hle.trans (Nat.sub_le _ _))).trans (Nat.div_mul_le_self _ _)
  have hfit : (s.BI.toNat - 1) * blockSize s.WSEL + blockSize s.WSEL ≤ outMax s.platform := by rw [outMax]; omega
  have hpass : WorkInv (decPass (unwhiten s (workPair s)) s) :=
    workInv_setCV (workInv_storePair (workInv_setXY h (fitsPair_unwhiten s _)) _ _ hfit) (fitsPair_loadPair s .input _)
  have hBI : (s.BI + 1).toNat = s.BI.toNat + 1 := by
    rw [BitVec.toNat_add]
    exact Nat.mod_eq_of_lt (by simp; omega)
  rw [decBlockEnd_eq_decPass, decNextPhase]
  split
  case isTrue hnext =>
    exact ⟨hpass, .inr ⟨rfl, rfl, rfl, indexInv_of_decPhase (.inl rfl) (show 1 ≤ (s.BI + 1).toNat by omega) hnext⟩⟩
  case isFalse => exact ⟨hpass, rowShape_toPhase rfl rfl rfl (by decide)⟩

/-- Row D_UNPAD. -/
theorem rowKeeps_decUnpadRow (hlen : s.IN_LEN.toNat ≤ s.platform.IN_MAX) : RowKeeps .dec s (decUnpadRow s) := by
  have hstrip := length_unpad_le (memRead s .output 0 (decBlocks s * blockSize s.WSEL))
  have hmul : decBlocks s * blockSize s.WSEL ≤ s.IN_LEN.toNat :=
    (Nat.mul_le_mul_right _ (Nat.sub_le _ _)).trans (Nat.div_mul_le_self _ _)
  rw [length_memRead] at hstrip
  exact ⟨workInv_setOutLen h (n := (unpad (memRead s .output 0 (decBlocks s * blockSize s.WSEL))).1.length)
    (by rw [outMax]; omega), rowShape_okEnd _ _ _⟩

/-- Rows P_PRE, P_ROUND and P_POST. -/
theorem rowKeeps_pairRows {i : Instr} {t : State} (hi : decode s.OPR = .ok i) (hruns : s.PHASE.runs i)
    (hindex : IndexInv s) (hphase : s.PHASE = .P_PRE ∨ s.PHASE = .P_ROUND ∨ s.PHASE = .P_POST)
    (hstep : seqStep s = .next t) : RowKeeps i s t := by
  have hpair : i = .encp ∨ i = .decp := by rcases hphase with hp | hp | hp <;> simpa only [hp, Phase.runs] using hruns
  have hbuilding : s.PHASE.building = false := by rcases hphase with hp | hp | hp <;> rw [hp] <;> rfl
  have hround : RowKeeps i s (toPhase .P_POST s) := ⟨h, rowShape_toPhase rfl hpair rfl (by decide)⟩
  unfold seqStep at hstep
  rcases hphase with hp | hp | hp <;> simp only [hp] at hstep <;> rcases hpair with rfl | rfl
  · obtain rfl := Host.Outcome.next.inj ((pairPreRow_of_encp hi).symm.trans hstep)
    exact ⟨workInv_atRound h (fitsPair_whiten s _) 1, rowShape_toPhase rfl (.inl rfl) rfl (by decide)⟩
  · obtain rfl := Host.Outcome.next.inj ((pairPreRow_of_decp hi).symm.trans hstep)
    exact ⟨workInv_atRound h (fitsPair_words s) s.R.toNat, rowShape_toPhase rfl (.inr rfl) rfl (by decide)⟩
  · obtain rfl := Host.Outcome.next.inj ((pairRoundRow_of_encp hi).symm.trans hstep)
    exact rowKeeps_encRoundStep h hruns hbuilding hindex hround
  · obtain rfl := Host.Outcome.next.inj ((pairRoundRow_of_decp hi).symm.trans hstep)
    exact rowKeeps_decRoundStep h hruns hbuilding hindex hround
  · obtain rfl := Host.Outcome.next.inj ((pairPostRow_of_encp hi).symm.trans hstep)
    exact ⟨h, rowShape_okEnd _ _ _⟩
  · obtain rfl := Host.Outcome.next.inj ((pairPostRow_of_decp hi).symm.trans hstep)
    exact ⟨workInv_setXY h (fitsPair_unwhiten s _), rowShape_okEnd _ _ _⟩

/-- Row EXEC. -/
theorem rowKeeps_execRow {i : Instr} {t : State} (hi : decode s.OPR = .ok i)
    (hsingle : (singleStepBody i).isSome = true) (hcheck : check i s = none) (hstep : execRow s = .next t) :
    RowKeeps i s t := by
  obtain ⟨j, hj, rfl⟩ := execRow_next hstep
  obtain rfl : i = j := by simpa using hi.symm.trans hj
  exact ⟨workInv_bodyOf_singleStep h (encodeInvertsDecode _ _ hi).1 hcheck hsingle, rowShape_okEnd _ _ _⟩

end

/-- Every row but those of INIT. -/
theorem rowKeeps_of_seqStep {s t : State} {i : Instr} (h : WorkInv s) (hindex : IndexInv s)
    (hi : decode s.OPR = .ok i) (hruns : s.PHASE.runs i) (hcheck : check i s = none)
    (hbuilding : s.PHASE.building = false) (hstep : seqStep s = .next t) : RowKeeps i s t := by
  have ⟨henc, hdec, _⟩ := hindex
  have hlen := inLen_le_of_check_none hcheck
  have hrow := hstep
  unfold seqStep at hrow
  cases hphase : s.PHASE <;> simp only [hphase] at hrow
  case IDLE | DECODE => rw [hphase] at hruns; exact hruns.elim
  case K_HASH | K_SPLIT | K_MIX => rw [hphase] at hbuilding; cases hbuilding
  case EXEC => exact rowKeeps_execRow h hi (by simpa only [hphase, Phase.runs] using hruns) hcheck hrow
  case P_PRE | P_ROUND | P_POST => exact rowKeeps_pairRows h hi hruns hindex (by simp [hphase]) hstep
  all_goals
    obtain rfl : i = _ := by simpa only [hphase, Phase.runs] using hruns
    cases hrow
  case E_IV => exact rowKeeps_ivRow h
  case E_IVROUND => exact rowKeeps_encRoundStep h hruns hbuilding hindex (rowKeeps_ivEnd h)
  case E_LOAD => exact rowKeeps_encLoadRow h (henc (.inl hphase))
  case E_ROUND =>
    exact rowKeeps_encRoundStep h hruns hbuilding hindex
      (rowKeeps_encBlockEnd h (hlen (by simp)) (henc (.inr hphase)))
  case D_IVLOAD => exact rowKeeps_decIvLoadRow h
  case D_IVROUND =>
    exact rowKeeps_decRoundStep h hruns hbuilding hindex
      (rowKeeps_decIvEnd h (decBlocks_pos (two_blocks_le_of_check_none hcheck)))
  case D_LOAD =>
    obtain ⟨hpos, hle⟩ := hdec (.inl hphase)
    exact rowKeeps_decLoadRow h hpos hle
  case D_ROUND =>
    obtain ⟨hpos, hle⟩ := hdec (.inr hphase)
    exact rowKeeps_decRoundStep h hruns hbuilding hindex (rowKeeps_decBlockEnd h (hlen (by simp)) hpos hle)
  case D_UNPAD => exact rowKeeps_decUnpadRow h (hlen (by simp))

end Sys2Proof.Proofs

/-! PROOFS. The sequencer keeps the invariant: DECODE, the rows of INIT, CLR (spec 45_system R251 to R254, R256). -/

namespace Sys2Proof.Proofs

open Sys2Proof Sys2Proof.Machine

/-! ### The work rows of every command but INIT -/

/-- INIT runs in its own phases only. -/
theorem ne_init_of_runs {p : Phase} {i : Instr} (hruns : p.runs i) (hbuilding : p.building = false) (a b c : Nat) :
    i ≠ .init a b c := by
  rintro rfl
  cases p <;> simp [Phase.runs, Phase.building, singleStepBody] at hruns hbuilding

/-- CLR runs in EXEC only. -/
theorem phase_eq_exec_of_runs_clr {p : Phase} (hruns : p.runs .clr) : p = .EXEC := by
  cases p <;> simp [Phase.runs] at hruns ⊢

/-- The engine of the reset state. -/
def BlankEngine (s : State) : Prop :=
  s.WSEL = .w16 ∧ s.R = 0 ∧ s.KLEN = 0 ∧ s.S = Vector.replicate 512 0 ∧ s.KEY = Vector.replicate 255 0

theorem tableInv_of_blankEngine {s : State} (h : BlankEngine s) : TableInv s := by
  obtain ⟨-, -, -, hS, hKEY⟩ := h
  have hsub (i : Nat) (hi : i < 512) : subkey s i = 0 := by rw [subkey, hS, tableGet_replicate _ _ hi]
  refine ⟨fun i hi => ?_, fun i hi _ => by rw [hKEY, tableGet_replicate _ _ hi]⟩
  rw [hsub i hi]
  exact ⟨fits_zero _, fun _ => rfl⟩

theorem lifeInv_of_blankEngine {s : State} (h : BlankEngine s) (hkeyed : s.STATUS.KEYED = false)
    (hbuilding : s.PHASE.building = false) : LifeInv s := by
  obtain ⟨hW, hR, hK, hS, hKEY⟩ := h
  refine ⟨fun _ _ => ⟨hW, hR, hK, fun i hi => ?_, fun i hi => ?_⟩, by simp [hkeyed, hbuilding]⟩
  · rw [subkey, hS, tableGet_replicate _ _ hi]
  · rw [hKEY, tableGet_replicate _ _ hi]

/-- A row of CLR: the engine ends blank. -/
theorem inv_of_clrRow {s t : State} (h : Inv s) (hi : decode s.OPR = .ok .clr) (hphase : s.PHASE = .EXEC)
    (hstep : seqStep s = .next t) : Inv t := by
  obtain ⟨hhost, -, hwork, hflag, -, -⟩ := (inv_iff_parts s).mp h
  have herr := reportedError_seqStep (by simp [hphase]) hstep
  have hh := hostSide_seqStep hstep
  simp only [seqStep, hphase] at hstep
  obtain ⟨i, hi', rfl⟩ := execRow_next hstep
  obtain rfl : Instr.clr = i := by simpa using hi.symm.trans hi'
  have hblank : BlankEngine (okEnd (clrBody s)) := ⟨rfl, rfl, rfl, rfl, rfl⟩
  rw [inv_iff_parts]
  exact ⟨hostInv_congr hh hhost, tableInv_of_blankEngine hblank, workInv_bodyOf_singleStep hwork rfl rfl rfl,
    flagInv_of_end hflag (busy_of_ne_idle h (by simp [hphase])) rfl rfl rfl herr,
    lifeInv_of_blankEngine hblank rfl rfl, commandInv_of_not_working (.inl rfl)⟩

/-- A work row of any command but INIT. -/
theorem inv_of_workRow {s t : State} {i : Instr} (h : Inv s) (hi : decode s.OPR = .ok i) (hruns : s.PHASE.runs i)
    (hcheck : check i s = none) (hbuilding : s.PHASE.building = false) (hstep : seqStep s = .next t) : Inv t := by
  obtain ⟨-, -, hwork, -, -, -, hindex⟩ := (inv_iff_parts s).mp h
  by_cases hclr : i = .clr
  · subst hclr
    exact inv_of_clrRow h hi (phase_eq_exec_of_runs_clr hruns) hstep
  · have hkeyed := keyed_of_check_none (encodeInvertsDecode _ _ hi).1 hcheck (ne_init_of_runs hruns hbuilding) hclr
    have he : engine t = engine s := by
      refine (engine_seqStep h hkeyed hstep).resolve_right fun ⟨_, _, hi'⟩ => hclr ?_
      simpa using hi.symm.trans hi'
    obtain ⟨hwork', hshape⟩ := rowKeeps_of_seqStep hwork hindex hi hruns hcheck hbuilding hstep
    exact inv_of_keyed_row h hi hruns hcheck hbuilding hstep he hwork' hshape

/-! ### The DECODE step -/

/-- An error end keeps the invariant: it is the end of a running command. -/
theorem inv_errorEnd {s : State} (h : Inv s) (hphase : s.PHASE = .DECODE) (e : ErrCode) : Inv (errorEnd e s) := by
  obtain ⟨hhost, htab, hwork, ⟨-, hrun, -⟩, hlife, -⟩ := (inv_iff_parts s).mp h
  obtain ⟨-, -, hpadnv⟩ := hrun (busy_of_ne_idle h (by simp [hphase]))
  have hnumber : 1 ≤ (errNumber e).toNat ∧ (errNumber e).toNat ≤ 5 := by cases e <;> decide
  rw [inv_iff_parts]
  refine ⟨hhost, htab, hwork, ?_, lifeInv_congr (engine_errorEnd e s) (by rw [hphase]; rfl) hlife,
    commandInv_of_not_working (.inl rfl)⟩
  simp [FlagInv, hpadnv, hnumber]

/-- A command other than INIT enters its first work phase. -/
theorem inv_firstWork_of_ne_init {s : State} {i : Instr} (h : Inv s) (hphase : s.PHASE = .DECODE)
    (hi : decode s.OPR = .ok i) (hcheck : check i s = none) (hne : ∀ a b c, i ≠ .init a b c) : Inv (firstWork i s) := by
  obtain ⟨hhost, htab, hwork, hflag, hlife, -⟩ := (inv_iff_parts s).mp h
  have hbusy := busy_of_ne_idle h (by simp [hphase])
  have hgo {p : Phase} (hruns : p.runs i) (hbuilding : p.building = false)
      (hp : p ≠ .E_LOAD ∧ p ≠ .E_ROUND ∧ p ≠ .D_LOAD ∧ p ≠ .D_ROUND ∧ p ≠ .K_MIX) : Inv (toPhase p s) := by
    obtain ⟨hidle, -⟩ := ne_idle_of_runs hruns
    rw [inv_iff_parts]
    exact ⟨hhost, htab, hwork, flagInv_of_continue hflag hbusy hidle rfl,
      lifeInv_congr (s := s) (t := toPhase p s) rfl (by rw [hphase]; exact hbuilding) hlife,
      fun _ _ => ⟨i, hi, hruns, (check_congr (s := s) (t := toPhase p s) rfl rfl i).trans hcheck⟩,
      by simp [IndexInv, hp]⟩
  cases i with
  | init a b c => exact absurd rfl (hne a b c)
  | enc => exact hgo (p := .E_IV) rfl rfl (by decide)
  | dec => exact hgo (p := .D_IVLOAD) rfl rfl (by decide)
  | encp => exact hgo (p := .P_PRE) (.inl rfl) rfl (by decide)
  | decp => exact hgo (p := .P_PRE) (.inr rfl) rfl (by decide)
  | pad | unpad | rotl | rotr | ldp | stp | clr => exact hgo (p := .EXEC) rfl rfl (by decide)

/-- A 16-bit word is a word of every width. -/
theorem fits_of_fits_w16 {v : Word} (h : Fits .w16 v) (w : Width) : Fits w v := by
  have hmask : mask .w16 &&& mask w = mask .w16 := by cases w <;> decide
  have hv : v &&& mask .w16 = v := h
  change v &&& mask w = v
  rw [← hv, BitVec.and_assoc, hmask]

theorem fitsPair_of_w16 {p : Word × Word} (h : FitsPair .w16 p) (w : Width) : FitsPair w p :=
  ⟨fits_of_fits_w16 h.1 w, fits_of_fits_w16 h.2 w⟩

/-- INIT latches its parameters in an engine that is all 0. -/
theorem inv_firstWork_of_init {s : State} {wsel rounds klen : Nat} {w : Width} (h : Inv s) (hphase : s.PHASE = .DECODE)
    (hi : decode s.OPR = .ok (.init wsel rounds klen)) (hcheck : check (.init wsel rounds klen) s = none) :
    Inv (toPhase .K_HASH { latchConfig w rounds klen s with HC := 0 }) := by
  obtain ⟨hhost, -, ⟨hout, hlen, ⟨hXY, hCV, hK⟩, hhbuf⟩, hflag, ⟨hunkeyed, -⟩, -⟩ := (inv_iff_parts s).mp h
  obtain ⟨hkeyed, -, hklen⟩ := of_checkInit_eq_none hcheck
  obtain ⟨-, -, hbyte⟩ := wellFormed_init (encodeInvertsDecode _ _ hi).1
  obtain ⟨hW, -, -, hsub, hkey⟩ := hunkeyed hkeyed (by rw [hphase]; rfl)
  rw [hW] at hXY hCV hK
  have hlatched : (BitVec.ofNat 8 klen).toNat = klen := by rw [BitVec.toNat_ofNat, Nat.mod_eq_of_lt hbyte]
  rw [inv_iff_parts]
  refine ⟨hhost, ⟨fun i hi => ?_, fun i hi _ => hkey i hi⟩,
    ⟨hout, hlen, ⟨fitsPair_of_w16 hXY w, fitsPair_of_w16 hCV w, fitsPair_of_w16 hK w⟩, hhbuf⟩,
    flagInv_of_continue hflag (busy_of_ne_idle h (by simp [hphase])) (show Phase.K_HASH ≠ .IDLE by decide) rfl,
    ⟨fun _ hbuilding => (Bool.false_ne_true hbuilding.symm).elim, fun _ => ?_⟩,
    fun _ _ => ⟨_, hi, ⟨_, _, _, rfl⟩, hcheck⟩, by simp [IndexInv]⟩
  · have hzero : subkey (toPhase .K_HASH { latchConfig w rounds klen s with HC := 0 }) i = 0 := hsub i hi
    rw [hzero]
    exact ⟨fits_zero _, fun _ => rfl⟩
  · exact hlatched.symm ▸ hklen

theorem inv_decodeStep {s : State} (h : Inv s) (hphase : s.PHASE = .DECODE) : Inv (decodeStep s) := by
  unfold decodeStep
  split
  case h_1 => exact inv_errorEnd h hphase _
  case h_2 i hi =>
    split
    case h_1 => exact inv_errorEnd h hphase _
    case h_2 hcheck =>
      by_cases hinit : ∃ a b c, i = .init a b c
      · obtain ⟨wsel, rounds, klen, rfl⟩ := hinit
        obtain ⟨-, ⟨w, hw⟩, -⟩ := of_checkInit_eq_none hcheck
        simp only [firstWork, hw]
        exact inv_firstWork_of_init h hphase hi hcheck
      · exact inv_firstWork_of_ne_init h hphase hi hcheck fun a b c hi => hinit ⟨a, b, c, hi⟩

/-! ### The rows of INIT -/

/-- A row of INIT that goes on with it: the latches, STATUS and the host's side stay. -/
theorem inv_of_building_row {s t : State} (h : Inv s) (hbuilding : s.PHASE.building = true)
    (hbuilding' : t.PHASE.building = true) (hh : hostSide t = hostSide s) (hstatus : t.STATUS = s.STATUS)
    (hK : t.KLEN = s.KLEN) (htab : TableInv t) (hwork : WorkInv t) (hindex : IndexInv t) : Inv t := by
  obtain ⟨hhost, -, -, hflag, ⟨-, hpos⟩, hcommand, -⟩ := (inv_iff_parts s).mp h
  have hwork_phase {p : Phase} (hp : p.building = true) : p ≠ .IDLE ∧ p ≠ .DECODE := by
    constructor <;> rintro rfl <;> cases hp
  obtain ⟨hidle, hdecode⟩ := hwork_phase hbuilding
  obtain ⟨i, hi, hruns, hcheck⟩ := hcommand hidle hdecode
  have hinit : ∃ a b c, i = .init a b c := by
    revert hbuilding hruns
    cases s.PHASE <;> simp [Phase.building, Phase.runs]
  obtain ⟨a, b, c, rfl⟩ := hinit
  obtain ⟨⟨-, -, hpwd, -⟩, hOPR, -, hplatform, -⟩ := (hostSide_eq_iff s t).mp hh
  have hcheck' : check (.init a b c) t = none := by
    rw [← hcheck]
    simp only [check, checkInit, hstatus, hpwd, hplatform]
  have hruns' : t.PHASE.runs (.init a b c) := by
    revert hbuilding'
    cases t.PHASE <;> simp [Phase.building, Phase.runs]
  rw [inv_iff_parts]
  refine ⟨hostInv_congr hh hhost, htab, hwork,
    flagInv_of_continue hflag (busy_of_ne_idle h hidle) (hwork_phase hbuilding').1 hstatus,
    ⟨fun _ hnot => ?_, fun _ => by rw [hK]; exact hpos (.inr hbuilding)⟩,
    fun _ _ => ⟨_, by rw [hOPR, hi], hruns', hcheck'⟩, hindex⟩
  rw [hbuilding'] at hnot
  cases hnot

/-- Row K_HASH: an answer has HLEN bytes, and its places in KEY lie below KLEN. -/
theorem inv_hashRow {s : State} (h : Inv s) (hphase : s.PHASE = .K_HASH) (hstep : seqStep s = .next (hashRow s)) :
    Inv (hashRow s) := by
  have hh := hostSide_seqStep hstep
  obtain ⟨-, ⟨hsub, hkey⟩, ⟨hout, hlen, hfits, -⟩, -⟩ := (inv_iff_parts s).mp h
  rw [hashRow_eq_hashPass] at hh ⊢
  have hanswer : (if s.HC = 0 then hash s.platform (password s) else hash s.platform s.HBUF).length =
      s.platform.HLEN := by split <;> exact length_hash _ _
  generalize (if s.HC = 0 then hash s.platform (password s) else hash s.platform s.HBUF) = answer at *
  have hnext : (hashNextPhase (s.HC + 1).toNat (hashCount s.platform s.KLEN.toNat)).building = true ∧
      hashNextPhase (s.HC + 1).toNat (hashCount s.platform s.KLEN.toNat) ≠ .K_MIX := by
    unfold hashNextPhase
    split <;> decide
  generalize hashNextPhase (s.HC + 1).toNat (hashCount s.platform s.KLEN.toNat) = p at *
  obtain ⟨hbuilding, hmix⟩ := hnext
  refine inv_of_building_row h (by rw [hphase]; rfl) hbuilding hh rfl rfl ⟨hsub, fun i hi hge => ?_⟩
    ⟨hout, hlen, hfits, hanswer⟩ ?_
  · have hpast : s.platform.HLEN ≤ (s.HC.toNat + 1) * s.platform.HLEN := Nat.le_mul_of_pos_left _ (Nat.succ_pos _)
    have hge' : s.KLEN.toNat ≤ i := hge
    change tableGet (tableFill s.KEY (s.KLEN.toNat - (s.HC.toNat + 1) * s.platform.HLEN)
      (answer.drop ((s.HC.toNat + 1) * s.platform.HLEN - s.KLEN.toNat))) i 0 = 0
    rw [tableGet_tableFill, List.length_drop, hanswer, if_neg (by omega), hkey i hi hge']
  · cases p <;> simp [IndexInv] at hbuilding hmix ⊢ <;> cases hbuilding

theorem fits_getD_seedWords (s : State) {i : Nat} (hi : i < subkeyCount s) : Fits s.WSEL
    ((seedWords s.WSEL (seedQ s.platform s.WSEL) (subkeyCount s) (seedP s.platform s.WSEL)).getD i 0) := by
  refine BitVec.eq_of_toNat_eq ?_
  rw [toNat_toWord, toNat_getD_seedWords _ _ (toNat_seedP_lt _ _) hi]
  exact Nat.mod_mod _ _

/-- Seeding writes words of the width into the entries below `t`. -/
theorem tableInv_seedTable {s : State} (h : TableInv s) : TableInv (seedTable s) := by
  obtain ⟨hsub, hkey⟩ := h
  refine ⟨fun i hi => ⟨?_, fun hge => ?_⟩, hkey⟩
  · rw [subkey_seedTable]
    split
    case isTrue hlt => exact fits_getD_seedWords s hlt
    case isFalse => exact (hsub i hi).1
  · have hge' : subkeyCount s ≤ i := hge
    rw [subkey_seedTable, if_neg hge'.not_gt, (hsub i hi).2 hge']

theorem workInv_splitKey {s : State} (h : WorkInv s) : WorkInv (splitKey s) := h

theorem workInv_seedTable {s : State} (h : WorkInv s) : WorkInv (seedTable s) := h

theorem workInv_startMix {s : State} (h : WorkInv s) : WorkInv (startMix s) := by
  obtain ⟨hout, hlen, ⟨hXY, hCV, -⟩, hhbuf⟩ := h
  exact ⟨hout, hlen, ⟨hXY, hCV, fits_zero _, fits_zero _⟩, hhbuf⟩

theorem indexInv_startMix (s : State) : IndexInv (toPhase .K_MIX (startMix s)) :=
  indexInv_of_mixPhase rfl (Nat.zero_lt_two.trans_le (two_le_subkeyCount (startMix s)))

/-- Row K_SPLIT. -/
theorem inv_splitRow {s : State} (h : Inv s) (hphase : s.PHASE = .K_SPLIT) (hstep : seqStep s = .next (splitRow s)) :
    Inv (splitRow s) := by
  obtain ⟨-, htab, hwork, -⟩ := (inv_iff_parts s).mp h
  have hseed := tableInv_seedTable (tableInv_congr (t := splitKey s) rfl htab)
  have hwork' := workInv_startMix (workInv_seedTable (workInv_splitKey hwork))
  exact inv_of_building_row h (by rw [hphase]; rfl) rfl (hostSide_seqStep hstep) rfl rfl
    (tableInv_congr (s := seedTable (splitKey s)) rfl hseed) hwork' (indexInv_startMix _)

/-- An iteration of the mixing loop writes a word of the width at KI, and KI goes around below `t`. -/
theorem tableInv_mixStep {s : State} (h : TableInv s) (hKI : s.KI.toNat < subkeyCount s) : TableInv (mixStep s) := by
  obtain ⟨hsub, hkey⟩ := h
  have hentry (i : Nat) : subkey (mixStep s) i =
      if s.KI.toNat = i ∧ i < 512 then rotl s.WSEL (toWord s.WSEL (tableGet s.S s.KI.toNat 0 + s.KA + s.KB)) 3
      else subkey s i := tableGet_set ..
  refine ⟨fun i hi => ⟨?_, fun hge => ?_⟩, hkey⟩
  · rw [hentry]
    split
    · exact fits_rotl _ _ _
    · exact (hsub i hi).1
  · have hge' : subkeyCount s ≤ i := hge
    rw [hentry, if_neg (by omega), (hsub i hi).2 hge']

theorem workInv_mixStep {s : State} (h : WorkInv s) : WorkInv (mixStep s) := by
  obtain ⟨hout, hlen, ⟨hXY, hCV, -⟩, hhbuf⟩ := h
  exact ⟨hout, hlen, ⟨hXY, hCV, fits_rotl _ _ _, fits_rotl _ _ _⟩, hhbuf⟩

theorem toNat_KI_mixStep_lt (s : State) : (mixStep s).KI.toNat < subkeyCount s := by
  have hpos := two_le_subkeyCount s
  have hle : (mixStep s).KI.toNat ≤ (s.KI.toNat + 1) % subkeyCount s :=
    (BitVec.toNat_ofNat ..).trans_le (Nat.mod_le _ _)
  exact hle.trans_lt (Nat.mod_lt _ (by omega))

/-- Row K_MIX: the last iteration also ends the command and sets KEYED. -/
theorem inv_mixRow {s : State} (h : Inv s) (hphase : s.PHASE = .K_MIX) (hstep : seqStep s = .next (mixRow s)) :
    Inv (mixRow s) := by
  have hh := hostSide_seqStep hstep
  have herr := reportedError_seqStep (by simp [hphase]) hstep
  obtain ⟨hhost, htab, hwork, hflag, ⟨-, hpos⟩, -, -, -, hmix⟩ := (inv_iff_parts s).mp h
  have hbuilding : s.PHASE.building = true := by rw [hphase]; rfl
  have htab' := tableInv_mixStep htab (hmix hphase)
  have hwork' := workInv_mixStep hwork
  rw [mixRow_eq, afterMixPass] at hh herr ⊢
  split at hh
  case isTrue hend =>
    rw [if_pos hend] at herr ⊢
    rw [inv_iff_parts]
    exact ⟨hostInv_congr hh hhost, htab', hwork',
      flagInv_of_end hflag (busy_of_ne_idle h (by simp [hphase])) rfl rfl rfl herr,
      ⟨fun hkeyed => (Bool.false_ne_true hkeyed.symm).elim, fun _ => hpos (.inr hbuilding)⟩,
      commandInv_of_not_working (.inl rfl)⟩
  case isFalse hgo =>
    rw [if_neg hgo]
    exact inv_of_building_row h hbuilding hbuilding hh rfl rfl htab' hwork'
      (indexInv_of_mixPhase hphase (toNat_KI_mixStep_lt s))

/-! ### Every step of the sequencer -/

theorem inv_seqStep {s t : State} (h : Inv s) (hstep : seqStep s = .next t) : Inv t := by
  by_cases hidle : s.PHASE = .IDLE
  · simp only [seqStep, hidle] at hstep
    cases hstep
    exact h
  by_cases hdecode : s.PHASE = .DECODE
  · obtain rfl := Host.Outcome.next.inj ((seqStep_of_decode hdecode).symm.trans hstep)
    exact inv_decodeStep h hdecode
  obtain ⟨i, hi, hruns, hcheck⟩ := h.command hidle hdecode
  cases hbuilding : s.PHASE.building with
  | false => exact inv_of_workRow h hi hruns hcheck hbuilding hstep
  | true =>
    have hrow := hstep
    unfold seqStep at hrow
    cases hphase : s.PHASE <;> simp only [hphase] at hrow
    case K_HASH =>
      cases hrow
      exact inv_hashRow h hphase hstep
    case K_SPLIT =>
      cases hrow
      exact inv_splitRow h hphase hstep
    case K_MIX =>
      cases hrow
      exact inv_mixRow h hphase hstep
    all_goals rw [hphase] at hbuilding; cases hbuilding

theorem inv_seqRun {n : Nat} {s t : State} (h : Inv s) (hrun : seqRun n s = .next t) : Inv t := by
  induction n generalizing s with
  | zero =>
    cases hrun
    exact h
  | succ n ih =>
    rw [seqRun] at hrun
    cases hstep : seqStep s with
    | next u => exact ih (inv_seqStep h hstep) (by simpa only [hstep] using hrun)
    | fault r => simp [hstep] at hrun
    | refused r => simp [hstep] at hrun

end Sys2Proof.Proofs

/-! PROOFS. Every agent keeps the invariant, and no step from it can fail (spec 10_state R46 to R48,
60_exceptions R288). -/

namespace Sys2Proof.Proofs

open Sys2Proof Sys2Proof.Machine

/-! ### Reset (R311) -/

theorem inv_resetInput {s : State} (hp : s.platform.wf) : Inv (resetInput s) := by
  have hblank : BlankEngine (resetInput s) := ⟨rfl, rfl, rfl, rfl, rfl⟩
  have hempty (n : Nat) : ∀ c ∈ ([] : Memory), c.1 < n := fun _ hc => absurd hc List.not_mem_nil
  have hzero := fits_zero .w16
  rw [inv_iff_parts]
  exact ⟨⟨hp, ⟨reset_canonical .password, hempty _⟩, reset_canonical .input, hempty _⟩, tableInv_of_blankEngine hblank,
    ⟨⟨reset_canonical .output, hempty _⟩, Nat.zero_le _, ⟨⟨hzero, hzero⟩, ⟨hzero, hzero⟩, hzero, hzero⟩,
      List.length_replicate⟩,
    by simp [FlagInv, resetInput, State.reset, Status.reset], lifeInv_of_blankEngine hblank rfl rfl,
    commandInv_of_not_working (.inl rfl)⟩

theorem platform_default_wf : Platform.default.wf := by
  refine ⟨by decide, by decide, by decide, by decide, Nat.succ_pos _⟩

/-- Settles O55: the reset state differs from what the reset input leaves in its number of resets only, and the
invariant does not speak of that. -/
theorem resetMeetsInvariant : Obligations.ResetMeetsInvariant := by
  have hparts := (inv_iff_parts _).mp (inv_resetInput (s := State.reset) platform_default_wf)
  exact (inv_iff_parts _).mpr hparts

/-! ### Host accesses -/

/-- HERR and the answer of the port have no part in the invariant. -/
theorem inv_withHostData {s : State} (h : Inv s) (herr : Bool) (d : BitVec 64) : Inv (withHostData herr d s) := by
  obtain ⟨hhost, htab, hwork, hflag, hlife, hcommand, hindex⟩ := (inv_iff_parts s).mp h
  rw [inv_iff_parts]
  refine ⟨hhost, htab, hwork, hflag, hlife, fun hidle hdecode => ?_, hindex⟩
  obtain ⟨i, hi, hruns, hcheck⟩ := hcommand hidle hdecode
  exact ⟨i, hi, hruns, (check_withHostData herr d i s).trans hcheck⟩

theorem phase_eq_idle {s : State} (h : Inv s) (hidle : s.STATUS.BUSY = false) : s.PHASE = .IDLE := by
  by_contra hphase
  exact Bool.false_ne_true (hidle.symm.trans (busy_of_ne_idle h hphase))

theorem inv_accept {s : State} (h : Inv s) (hidle : s.STATUS.BUSY = false) (v : BitVec 32) : Inv (accept v s) := by
  obtain ⟨hhost, htab, hwork, -, hlife, -⟩ := (inv_iff_parts s).mp h
  have hbuilding : (accept v s).PHASE.building = s.PHASE.building := by rw [phase_eq_idle h hidle]; rfl
  rw [inv_iff_parts]
  exact ⟨hhost, htab, hwork, by simp [FlagInv], lifeInv_congr (engine_accept v s) hbuilding hlife,
    commandInv_of_not_working (.inr rfl)⟩

/-- A store by the host into an idle FCE: a length, A, B, or a byte of the inputs. -/
theorem inv_of_idle_store {s t : State} (h : Inv s) (hidle : s.STATUS.BUSY = false) (hphase : t.PHASE = s.PHASE)
    (hstatus : t.STATUS = s.STATUS) (he : engine t = engine s) (hhost : HostInv t) (hwork : WorkInv t) : Inv t := by
  obtain ⟨-, htab, -, hflag, hlife, -⟩ := (inv_iff_parts s).mp h
  rw [inv_iff_parts]
  refine ⟨hhost, tableInv_congr he htab, hwork, ?_, lifeInv_congr he (by rw [hphase]) hlife,
    commandInv_of_not_working (.inl (hphase.trans (phase_eq_idle h hidle)))⟩
  rwa [FlagInv, hstatus, hphase]

/-- A byte written within a buffer that the host may write. -/
theorem inv_writeByte {s : State} (h : Inv s) (hidle : s.STATUS.BUSY = false) {b : Buf} (hb : b ≠ .output) {o : Nat}
    (ho : o < capacity s.platform b) (x : Byte) : Inv (memWrite b o [x] s) := by
  obtain ⟨⟨hplatform, ⟨hpwd, hpwd'⟩, hin, hin'⟩, -, hwork, -⟩ := (inv_iff_parts s).mp h
  have hbound {m : Memory} (hm : ∀ c ∈ m, c.1 < capacity s.platform b) :
      ∀ c ∈ m.putBytes o [x], c.1 < capacity s.platform b := by
    intro c hc
    rcases Memory.mem_putBytes hc with ⟨-, hrun⟩ | hold
    · exact hrun.trans_le ho
    · exact hm c hold
  cases b with
  | output => exact absurd rfl hb
  | password =>
    exact inv_of_idle_store h hidle rfl rfl rfl ⟨hplatform, ⟨Memory.wf_putBytes hpwd o [x], hbound hpwd'⟩, hin, hin'⟩
      hwork
  | input =>
    exact inv_of_idle_store h hidle rfl rfl rfl ⟨hplatform, ⟨hpwd, hpwd'⟩, Memory.wf_putBytes hin o [x], hbound hin'⟩
      hwork

theorem inv_of_hostEffect {s t : State} {a : HostAccess} (h : Inv s) (heffect : HostEffect s a t) : Inv t := by
  obtain ⟨hhost, -, hwork, -⟩ := (inv_iff_parts s).mp h
  cases heffect with
  | refused | clearHerr => exact inv_withHostData h _ _
  | readStatus | readReg | readByte => exact inv_withHostData h s.STATUS.HERR _
  | keepHerr => exact h
  | writeCmd hidle => exact inv_accept h hidle _
  | writePwdLen hidle | writeInLen hidle | writeA hidle | writeB hidle =>
    exact inv_of_idle_store h hidle rfl rfl rfl hhost hwork
  | writeByte hidle hb ho => exact inv_writeByte h hidle hb ho _

/-! ### Whole commands -/

/-- A whole command is a refusal, or a run of the sequencer from acceptance. -/
theorem inv_runCommand {s t : State} {v : BitVec 32} (h : Inv s) (hrun : runCommand v s = .next t) : Inv t := by
  cases hbusy : s.STATUS.BUSY with
  | true =>
    obtain rfl : refuseAccess s = t := by simpa [runCommand, hbusy] using hrun
    exact inv_withHostData h true s.readData
  | false =>
    obtain ⟨hillegal, hlegal⟩ := sequencerRunEqualsWholeCommand s v h.platform hbusy
    cases hv : decode v with
    | error e => exact inv_seqRun (inv_accept h hbusy v) ((hillegal e hv).trans hrun)
    | ok i => exact inv_seqRun (inv_accept h hbusy v) ((hlegal i hv).1.trans hrun)

theorem platform_of_hostSide_eq {s t : State} (h : hostSide t = hostSide s) : t.platform = s.platform := by
  obtain ⟨-, -, -, hplatform, -⟩ := (hostSide_eq_iff s t).mp h
  exact hplatform

theorem platform_runCommand {s t : State} {v : BitVec 32} (hrun : runCommand v s = .next t) :
    t.platform = s.platform := by
  rcases runCommand_next_cases hrun with ⟨-, rfl⟩ | ⟨-, -, rfl⟩ | ⟨-, i, -, ⟨e, -, rfl⟩ | ⟨-, rfl⟩⟩
  · rfl
  · rfl
  · rfl
  · have hbody := platform_of_hostSide_eq (hostSide_bodyOf i (accept v s))
    exact hbody

theorem platform_of_hostEffect {s t : State} {a : HostAccess} (h : HostEffect s a t) : t.platform = s.platform := by
  cases h with
  | writeByte => exact memWrite_platform ..
  | _ => rfl

/-- Settles O56: the agents one by one. -/
theorem stepKeepsInvariant : Obligations.StepKeepsInvariant := by
  intro s t h hstep
  rcases step_next_cases hstep with ⟨-, hseq⟩ | ⟨a, rest, -, rfl⟩ | ⟨rest, -, hseq⟩ | ⟨v, rest, -, hrun⟩ |
    ⟨rest, -, rfl⟩
  · exact ⟨inv_seqStep h hseq, platform_of_hostSide_eq (hostSide_seqStep hseq)⟩
  · have heffect := hostEffect_hostAccess a { s with turns := rest }
    have hplatform := platform_of_hostEffect heffect
    exact ⟨inv_of_hostEffect (inv_turns h rest) heffect, hplatform⟩
  · have hplatform := platform_of_hostSide_eq (hostSide_seqStep hseq)
    exact ⟨inv_seqStep (inv_turns h rest) hseq, hplatform⟩
  · have hplatform := platform_runCommand hrun
    exact ⟨inv_runCommand (inv_turns h rest) hrun, hplatform⟩
  · exact ⟨inv_resetInput h.platform, rfl⟩

/-! ### No step can fail -/

/-- The command in OPR has a row in the phase in which the FCE is. -/
theorem exists_seqStep {s : State} (h : Inv s) : ∃ t, seqStep s = .next t := by
  have hcommand := h.command
  unfold seqStep
  cases hphase : s.PHASE
  case EXEC =>
    obtain ⟨i, hi, hruns, -⟩ := hcommand (by simp [hphase]) (by simp [hphase])
    rw [hphase] at hruns
    obtain ⟨body, hbody⟩ := Option.isSome_iff_exists.mp hruns
    exact ⟨okEnd (body s), by simp only [execRow, hi, hbody]⟩
  case P_PRE | P_ROUND | P_POST =>
    obtain ⟨i, hi, hruns, -⟩ := hcommand (by simp [hphase]) (by simp [hphase])
    rw [hphase] at hruns
    rcases hruns with rfl | rfl <;> simp [pairPreRow, pairRoundRow, pairPostRow, hi]
  all_goals exact ⟨_, rfl⟩

theorem exists_runCommand (v : BitVec 32) (s : State) : ∃ t, runCommand v s = .next t := by
  unfold runCommand
  split
  · exact ⟨_, rfl⟩
  · split
    · exact ⟨_, rfl⟩
    · rw [exec_eq_finish]
      exact finish_total _ _ _

/-- Settles O57: only a row of the sequencer could fail, and the invariant gives the row its command. -/
theorem invariantStatesNeverStop : Obligations.InvariantStatesNeverStop := by
  intro s h
  cases hturns : s.turns with
  | nil => rw [step_nil hturns]; exact exists_seqStep h
  | cons turn rest =>
    rw [step_cons hturns]
    cases turn with
    | host a => exact ⟨_, rfl⟩
    | sequencer => exact exists_seqStep (inv_turns h rest)
    | command v => exact exists_runCommand v _
    | reset => exact ⟨_, rfl⟩

end Sys2Proof.Proofs

/-! PROOFS. The writers of the result registers, and the counters that a command leaves behind (spec 10_state R21, R41,
R44, 45_system R254). -/

namespace Sys2Proof.Proofs

open Sys2Proof Sys2Proof.Machine

/-! ### A, B, OUT and OUT_LEN (R21, R41, R44) -/

/-- The pair registers. -/
def pairAB (s : State) : BitVec 64 × BitVec 64 := (s.A, s.B)

theorem pairAB_drawIv (s : State) : pairAB (drawIv s) = pairAB s := by simp [pairAB, drawIv]

theorem pairAB_encBody (s : State) : pairAB (encBody s) = pairAB s := by
  have hblock (u : State) : pairAB (encBlock u) = pairAB u := rfl
  exact (eq_of_iterate hblock (encBlocks s) (emitIv (drawIv s))).trans (pairAB_drawIv s)

theorem pairAB_decBody (s : State) : pairAB (decBody s) = pairAB s := by
  have hend : pairAB (decBody s) = pairAB (okEnd (decBody s)) := rfl
  rw [hend, okEnd_decBody_eq]
  rfl

/-- The registers that hold results. -/
def results (s : State) : (BitVec 64 × BitVec 64) × Memory × BitVec 32 := (pairAB s, s.OUT, s.OUT_LEN)

theorem results_buildTables (s : State) : results (buildTables s) = results s := by
  obtain ⟨S, L, KA, KB, KI, KJ, hbuilt⟩ := buildTables_frame s
  rw [hbuilt]
  rfl

/-- INIT writes none of the result registers. -/
theorem results_initBody (wsel rounds klen : Nat) (s : State) : results (initBody wsel rounds klen s) = results s := by
  have hkeyed (u : State) : results (setKeyed u) = results u := rfl
  have hderive (u : State) : results (deriveKey u) = results u := rfl
  have hlatch (w : Width) : results (latchConfig w rounds klen s) = results s := rfl
  unfold initBody
  split
  case h_1 w _ => exact (hkeyed _).trans ((results_buildTables _).trans ((hderive _).trans (hlatch w)))
  case h_2 => rfl

theorem A_bodyOf (i : Instr) (s : State) : (bodyOf i s).A = s.A ∨
    i = .rotl ∨ i = .rotr ∨ i = .encp ∨ i = .decp ∨ (∃ off, i = .ldp off) ∨ i = .clr := by
  cases i with
  | rotl | rotr | encp | decp | ldp | clr => simp
  | init wsel rounds klen => exact .inl (congrArg (·.1.1) (results_initBody wsel rounds klen s))
  | enc => exact .inl (congrArg Prod.fst (pairAB_encBody s))
  | dec => exact .inl (congrArg Prod.fst (pairAB_decBody s))
  | pad | unpad | stp => exact .inl rfl

theorem B_bodyOf (i : Instr) (s : State) : (bodyOf i s).B = s.B ∨
    i = .encp ∨ i = .decp ∨ (∃ off, i = .ldp off) ∨ i = .clr := by
  cases i with
  | encp | decp | ldp | clr => simp
  | init wsel rounds klen => exact .inl (congrArg (·.1.2) (results_initBody wsel rounds klen s))
  | enc => exact .inl (congrArg Prod.snd (pairAB_encBody s))
  | dec => exact .inl (congrArg Prod.snd (pairAB_decBody s))
  | pad | unpad | stp | rotl | rotr => exact .inl rfl

theorem OUT_bodyOf (i : Instr) (s : State) : (bodyOf i s).OUT = s.OUT ∨
    i = .enc ∨ i = .dec ∨ i = .pad ∨ i = .unpad ∨ ∃ off, i = .stp off := by
  cases i with
  | enc | dec | pad | unpad | stp => simp
  | init wsel rounds klen => exact .inl (congrArg (·.2.1) (results_initBody wsel rounds klen s))
  | encp | decp | rotl | rotr | ldp | clr => exact .inl rfl

theorem OUT_LEN_bodyOf (i : Instr) (s : State) : (bodyOf i s).OUT_LEN = s.OUT_LEN ∨
    i = .enc ∨ i = .dec ∨ i = .pad ∨ i = .unpad ∨ i = .clr := by
  cases i with
  | enc | dec | pad | unpad | clr => simp
  | init wsel rounds klen => exact .inl (congrArg (·.2.2) (results_initBody wsel rounds klen s))
  | encp | decp | rotl | rotr | ldp | stp => exact .inl rfl

/-- Settles O60: an error end writes none of the registers, and a successful end leaves those of the pseudocode. -/
theorem resultRegistersHaveTheirWriters : Obligations.ResultRegistersHaveTheirWriters := by
  intro i s t h
  rw [exec_eq_finish] at h
  rcases finish_next h with ⟨e, -, rfl⟩ | ⟨-, rfl⟩
  · exact ⟨absurd rfl, absurd rfl, absurd rfl, absurd rfl⟩
  · exact ⟨(A_bodyOf i s).resolve_left, (B_bodyOf i s).resolve_left, (OUT_bodyOf i s).resolve_left,
      (OUT_LEN_bodyOf i s).resolve_left⟩

/-! ### The counters RC, BI, HC and KN (R254, log entry 13) -/

theorem toNat_rcAfterEnc (s : State) : (rcAfterEnc s).toNat = s.R.toNat + 1 := by
  have hR := s.R.isLt
  rw [rcAfterEnc, BitVec.toNat_ofNat, Nat.mod_eq_of_lt (by omega)]

theorem counters_okEnd_encBody (s : State) :
    (okEnd (encBody s)).RC.toNat = s.R.toNat + 1 ∧ (okEnd (encBody s)).BI.toNat = encBlocks s := by
  rw [okEnd_encBody_eq]
  exact ⟨toNat_rcAfterEnc s, toNat_BI_encProgress (s := drawIv s) (encBlocks_lt s)⟩

/-- DEC has counted its data blocks from 1 on: BI is the number of blocks of the ciphertext. -/
theorem counters_okEnd_decBody {s : State} (hpos : 1 ≤ decBlocks s) :
    (okEnd (decBody s)).RC = 0 ∧ (okEnd (decBody s)).BI.toNat = s.IN_LEN.toNat / blockSize s.WSEL := by
  have hlt := decBlocks_succ_lt s
  have hcount : decBlocks s + 1 = s.IN_LEN.toNat / blockSize s.WSEL := by
    rw [decBlocks] at hpos ⊢
    omega
  rw [okEnd_decBody_eq]
  exact ⟨rfl, by rw [BitVec.toNat_ofNat, Nat.mod_eq_of_lt hlt, hcount]⟩

theorem ceilDiv_HLEN_lt {s : State} {klen : Nat} (hp : 1 ≤ s.platform.HLEN) (hklen : 1 ≤ klen) (hbyte : klen < 2 ^ 8) :
    ceilDiv klen s.platform.HLEN < 2 ^ 8 := by
  have hlatched : (latchConfig .w16 0 klen s).KLEN.toNat = klen := by
    rw [latchConfig, BitVec.toNat_ofNat, Nat.mod_eq_of_lt hbyte]
  have hlt := hashCount_lt (s := latchConfig .w16 0 klen s) hp (by omega)
  rwa [hlatched] at hlt

theorem initEnd_HC (h : List Byte) (n : BitVec 8) (s : State) : (initEnd h n s).HC = n := rfl

theorem initEnd_buildTables_KN (h : List Byte) (n : BitVec 8) (s : State) : (initEnd h n (buildTables s)).KN = 0 := by
  obtain ⟨S, L, KA, KB, KI, KJ, hbuilt⟩ := buildTables_frame s
  rw [hbuilt]
  rfl

/-- Settles O35: the commands whose checks pass, one by one. -/
theorem countersKeepLastValues : Obligations.CountersKeepLastValues := by
  refine fun s => ⟨fun hcheck => ?_, fun hcheck => ?_, fun hcheck => ?_, fun hcheck => ?_,
    fun wsel rounds klen hp hwf hcheck => ?_⟩
  · exact ⟨_, exec_of_check_none hcheck, toNat_rcAfterEnc s⟩
  · exact ⟨_, exec_of_check_none hcheck, rfl⟩
  · exact ⟨_, exec_of_check_none hcheck, counters_okEnd_encBody s⟩
  · exact ⟨_, exec_of_check_none hcheck,
      counters_okEnd_decBody (decBlocks_pos (two_blocks_le_of_check_none hcheck))⟩
  · obtain ⟨-, -, -, -, hHLEN⟩ := hp
    obtain ⟨-, -, hbyte⟩ := wellFormed_init hwf
    obtain ⟨-, ⟨w, hw⟩, hklen⟩ := of_checkInit_eq_none hcheck
    refine ⟨_, exec_init_of_check_none hHLEN hbyte hw hcheck, ?_, initEnd_buildTables_KN _ _ _⟩
    rw [initEnd_HC, BitVec.toNat_ofNat, Nat.mod_eq_of_lt (ceilDiv_HLEN_lt hHLEN hklen hbyte)]

end Sys2Proof.Proofs

/-! PROOFS. The command ENC: the draws, the ciphertext block by block, the errors and the frame (spec 44_cbc R220,
R222, R223). -/

namespace Sys2Proof.Proofs

open Sys2Proof Sys2Proof.Machine

/-! ### The draws (00_scope R11, log entry 3) -/

/-- The next two answers of the random port: those waiting first, then fresh ones. -/
def nextDraws (s : State) : List Word := (s.rngAnswers ++ [Config.draw s.drawn, Config.draw (s.drawn + 1)]).take 2

/-- The clear IV: the two answers, cut to the width. -/
def clearIv (s : State) : Word × Word :=
  ((nextDraws s).getD 0 0 &&& mask s.WSEL, (nextDraws s).getD 1 0 &&& mask s.WSEL)

theorem drawIv_eq (s : State) :
    drawIv s = { s with
      CV0 := (clearIv s).1
      CV1 := (clearIv s).2
      rngAnswers := s.rngAnswers.drop 2
      drawn := s.drawn + (2 - s.rngAnswers.length) } := by
  match hrng : s.rngAnswers with
  | [] => simp [drawIv, rngValue, rngAdvance, clearIv, nextDraws, hrng, setCV, toWord]
  | [x] => simp [drawIv, rngValue, rngAdvance, clearIv, nextDraws, hrng, setCV, toWord]
  | x :: y :: rest => simp [drawIv, rngValue, rngAdvance, clearIv, nextDraws, hrng, setCV, toWord]

/-! ### The ciphertext pairs -/

theorem encryptPair_drawIv (s : State) (p : Word × Word) : encryptPair (drawIv s) p = encryptPair s p :=
  encryptPair_congr (drawIv_WSEL s) (drawIv_R s) (drawIv_S s) p

theorem loadPaddedPair_drawIv (s : State) (k : Nat) : loadPaddedPair (drawIv s) k = loadPaddedPair s k := by
  rw [drawIv_eq]
  rfl

theorem encChain_drawIv_zero (s : State) : encChain (drawIv s) 0 = clearIv s := by
  rw [encChain, drawIv_eq]

/-- Block 0 is the encrypted IV. -/
theorem cipherPair_drawIv_zero (s : State) : cipherPair (drawIv s) 0 = encryptPair s (clearIv s) := by
  rw [cipherPair, encChain_drawIv_zero, encryptPair_drawIv]

/-- The first data block is chained to the clear IV. -/
theorem cipherPair_drawIv_one (s : State) :
    cipherPair (drawIv s) 1 = encryptPair s (xorPair (loadPaddedPair s 0) (clearIv s)) := by
  rw [cipherPair, encChain, encChain_drawIv_zero, encryptPair_drawIv, loadPaddedPair_drawIv]

theorem encChain_of_pos {s : State} {k : Nat} (hk : 1 ≤ k) : encChain s k = cipherPair s k := by
  obtain ⟨k, rfl⟩ := Nat.exists_eq_add_of_le' hk
  rfl

/-- Each later data block is chained to the ciphertext pair before. -/
theorem cipherPair_drawIv_succ (s : State) {k : Nat} (hk : 1 ≤ k) :
    cipherPair (drawIv s) (k + 1) = encryptPair s (xorPair (loadPaddedPair s k) (cipherPair (drawIv s) k)) := by
  rw [cipherPair, encChain, encChain_of_pos hk, encryptPair_drawIv, loadPaddedPair_drawIv]

/-! ### What ENC leaves in OUT -/

/-- The bytes that ENC writes. -/
def cipherBytes (s : State) : List Byte := pairsToBytes s.WSEL (cipherPair (drawIv s)) (encBlocks s + 1)

theorem length_cipherBytes (s : State) : (cipherBytes s).length = (encBlocks s + 1) * blockSize s.WSEL :=
  length_pairsToBytes ..

/-- ENC that ends well, field by field. -/
theorem okEnd_encBody_fields (s : State) :
    okEnd (encBody s) = { s with
      OUT := s.OUT.putBytes 0 (cipherBytes s)
      OUT_LEN := BitVec.ofNat 32 ((encBlocks s + 1) * blockSize s.WSEL)
      X := (cipherPair (drawIv s) (encBlocks s)).1
      Y := (cipherPair (drawIv s) (encBlocks s)).2
      CV0 := (cipherPair (drawIv s) (encBlocks s)).1
      CV1 := (cipherPair (drawIv s) (encBlocks s)).2
      RC := rcAfterEnc s
      BI := BitVec.ofNat 32 (encBlocks s)
      rngAnswers := s.rngAnswers.drop 2
      drawn := s.drawn + (2 - s.rngAnswers.length)
      PHASE := .IDLE
      STATUS := { s.STATUS with BUSY := false, DONE := true } } := by
  have hchain := encChain_of_pos (s := drawIv s) (encBlocks_pos s)
  rw [okEnd_encBody_eq, encProgress, hchain]
  generalize hpair : cipherPair (drawIv s) = C
  rw [cipherBytes, hpair, drawIv_eq]
  rfl

/-- After ENC, OUT reads as if the ciphertext blocks had just been written. -/
theorem byteAt_okEnd_encBody (s : State) (a : Nat) :
    byteAt (okEnd (encBody s)) .output a = byteAt (memWrite .output 0 (cipherBytes s) s) .output a := by
  rw [okEnd_encBody_fields]
  rfl

theorem byteAt_okEnd_encBody_block {s : State} {k j : Nat} (hk : k ≤ encBlocks s) (hj : j < blockSize s.WSEL) :
    byteAt (okEnd (encBody s)) .output (k * blockSize s.WSEL + j) =
      (bytesOfPair s.WSEL (cipherPair (drawIv s) k).1 (cipherPair (drawIv s) k).2).getD j 0 := by
  have hin : (k + 1) * blockSize s.WSEL ≤ (cipherBytes s).length := by
    rw [length_cipherBytes]
    exact Nat.mul_le_mul_right _ (by omega)
  rw [Nat.succ_mul] at hin
  rw [byteAt_okEnd_encBody, byteAt_memWrite_output_of_lt (by omega), ← getD_block _ _ _ hj, cipherBytes,
    block_pairsToBytes _ _ (by omega)]

theorem byteAt_okEnd_encBody_behind {s : State} {a : Nat} (ha : (encBlocks s + 1) * blockSize s.WSEL ≤ a) :
    byteAt (okEnd (encBody s)) .output a = byteAt s .output a := by
  rw [byteAt_okEnd_encBody, byteAt_memWrite_output_of_ge (by rwa [length_cipherBytes])]

/-- Settles O42: decoding by format Z, the three ends, and OUT block by block. -/
theorem encChainsBlocks : Obligations.EncChainsBlocks := by
  refine ⟨by decide, fun _ hopc hfield => endsIllegal_of_nonzero_fieldZ hopc (by decide) hfield,
    fun s => ⟨fun hp hk hlen => ?_, fun hk => ?_, fun hk hlen => ?_⟩⟩
  · refine ⟨_, cipherPair (drawIv s), nextDraws s, encBlocks s, exec_enc_of_in_range hk hlen, rfl, encBlocks_pos s, rfl,
      ⟨cipherPair_drawIv_zero s, cipherPair_drawIv_one s, fun k hpos _ => cipherPair_drawIv_succ s hpos⟩,
      fun k j => byteAt_okEnd_encBody_block, fun a => byteAt_okEnd_encBody_behind, toNat_OUT_LEN_encBody hp hlen, ?_⟩
    rw [okEnd_encBody_fields]
  · exact exec_of_check_some (i := .enc) (checkMessage_of_not_keyed hk)
  · exact exec_of_check_some (i := .enc) (checkMessage_of_too_long hk hlen)

end Sys2Proof.Proofs

/-! PROOFS. What the host can see, and no host access shows more of it (spec 10_state R49). -/

namespace Sys2Proof.Proofs

open Sys2Proof Sys2Proof.Machine

/-- Two states with the same last answer of the port, that agree on all that the host may observe. -/
def SameView (s t : State) : Prop := s.readData = t.readData ∧ HostEqual s t

theorem sameView_ite {c : Prop} [Decidable c] {s s' t t' : State} (hs : SameView s t) (ht : SameView s' t') :
    SameView (if c then s else s') (if c then t else t') := by
  split
  · exact hs
  · exact ht

section
variable {s t : State}

theorem hostEqual_of_status (h : HostEqual s t) (f : Status → Status) :
    HostEqual { s with STATUS := f s.STATUS } { t with STATUS := f t.STATUS } :=
  { h with status := congrArg f h.status }

theorem sameView_answer (h : HostEqual s t) (v : BitVec 64) : SameView (answer v s) (answer v t) := ⟨rfl, { h with }⟩

theorem regValue_congr (h : HostEqual s t) (k : Nat) : regValue s k = regValue t k := by
  unfold regValue
  rw [h.cfg, h.pwdLen, h.inLen, h.outLen, h.a, h.b]

/-- The bytes that the host may read. -/
theorem byteAt_congr (h : HostEqual s t) {b : Buf} (hb : b ≠ .password) {o : Nat} (ho : o < capacity s.platform b) :
    byteAt s b o = byteAt t b o := by
  cases b with
  | password => exact absurd rfl hb
  | input => exact h.input o ho
  | output => exact h.output o ho

theorem sameView_refuseRead (h : HostEqual s t) : SameView (refuseRead s) (refuseRead t) :=
  sameView_answer (hostEqual_of_status h fun st => { st with HERR := true }) 0

theorem sameView_readReg (h : HostEqual s t) (k : Nat) : SameView (readReg k s) (readReg k t) := by
  unfold readReg
  rw [h.status, regValue_congr h k]
  refine sameView_ite (sameView_answer h _) (sameView_ite (sameView_refuseRead h) ?_)
  cases regValue t k with
  | none => exact sameView_refuseRead h
  | some v => exact sameView_answer h v

theorem sameView_readByte (h : HostEqual s t) (b : Buf) (o : Nat) : SameView (readByte b o s) (readByte b o t) := by
  rw [readByte_eq, readByte_eq, ← h.status, ← h.platform]
  by_cases hrefused : s.STATUS.BUSY = true ∨ b = .password ∨ capacity s.platform b ≤ o
  · rw [if_pos hrefused, if_pos hrefused]
    exact sameView_refuseRead h
  · rw [if_neg hrefused, if_neg hrefused]
    simp only [not_or, not_le] at hrefused
    obtain ⟨-, hb, ho⟩ := hrefused
    rw [byteAt_congr h hb ho]
    exact sameView_answer h _

end

section
variable {s t : State} (h : SameView s t)
include h

theorem sameView_refuseAccess : SameView (refuseAccess s) (refuseAccess t) :=
  ⟨h.1, hostEqual_of_status h.2 fun st => { st with HERR := true }⟩

theorem sameView_accept (v : BitVec 32) : SameView (accept v s) (accept v t) :=
  ⟨h.1, { hostEqual_of_status h.2 fun st =>
    { st with BUSY := true, DONE := false, ERR := false, ERRCODE := 0, PADNV := false } with }⟩

theorem sameView_writeStatus (v : BitVec 32) : SameView (writeStatus v s) (writeStatus v t) :=
  sameView_ite ⟨h.1, hostEqual_of_status h.2 fun st => { st with HERR := false }⟩ h

/-- A write that an idle FCE takes and a busy one refuses. -/
theorem sameView_store {f : State → State} (hf : SameView (f s) (f t)) :
    SameView (if s.STATUS.BUSY then refuseAccess s else f s) (if t.STATUS.BUSY then refuseAccess t else f t) := by
  rw [h.2.status]
  exact sameView_ite (sameView_refuseAccess h) hf

theorem sameView_writeReg (k : Nat) (v : BitVec 64) : SameView (writeReg k v s) (writeReg k v t) := by
  have ⟨hanswer, hequal⟩ := h
  match k with
  | 0 => exact sameView_store h (sameView_accept h _)
  | 1 => exact sameView_writeStatus h _
  | 3 =>
    exact sameView_store h (f := fun s => { s with PWD_LEN := v.setWidth 32 })
      ⟨hanswer, { hequal with pwdLen := rfl }⟩
  | 4 =>
    exact sameView_store h (f := fun s => { s with IN_LEN := v.setWidth 32 })
      ⟨hanswer, { hequal with inLen := rfl }⟩
  | 6 => exact sameView_store h (f := fun s => { s with A := v }) ⟨hanswer, { hequal with a := rfl }⟩
  | 7 => exact sameView_store h (f := fun s => { s with B := v }) ⟨hanswer, { hequal with b := rfl }⟩
  | 2 | 5 | _ + 8 => exact sameView_refuseAccess h

/-- A byte stored at the same place of both states. -/
theorem sameView_memWrite {b : Buf} (hb : b ≠ .output) (o : Nat) (x : Byte) :
    SameView (memWrite b o [x] s) (memWrite b o [x] t) := by
  obtain ⟨hanswer, hequal⟩ := h
  have hbyte {c : Buf} {a : Nat} (hold : byteAt s c a = byteAt t c a) :
      byteAt (memWrite b o [x] s) c a = byteAt (memWrite b o [x] t) c a := by
    rw [byteAt_memWrite_singleton, byteAt_memWrite_singleton, hold]
  have hinput (a : Nat) (ha : a < s.platform.IN_MAX) := hbyte (hequal.input a ha)
  have houtput (a : Nat) (ha : a < outMax s.platform) := hbyte (hequal.output a ha)
  cases b with
  | output => exact absurd rfl hb
  | password | input => exact ⟨hanswer, { hequal with input := hinput, output := houtput }⟩

theorem sameView_writeByte (b : Buf) (o : Nat) (x : Byte) : SameView (writeByte b o x s) (writeByte b o x t) := by
  rw [writeByte_eq, writeByte_eq, h.2.status, h.2.platform]
  by_cases hrefused : t.STATUS.BUSY = true ∨ b = .output ∨ capacity t.platform b ≤ o
  · rw [if_pos hrefused, if_pos hrefused]
    exact sameView_refuseAccess h
  · rw [if_neg hrefused, if_neg hrefused]
    simp only [not_or] at hrefused
    obtain ⟨-, hb, -⟩ := hrefused
    exact sameView_memWrite h hb o x

end

/-- Settles O58: the four kinds of access, one by one. -/
theorem hostSeesNoHiddenState : Obligations.HostSeesNoHiddenState := by
  intro s t a hequal hanswer
  have h : SameView s t := ⟨hanswer, hequal⟩
  cases a with
  | readReg k => exact sameView_readReg hequal k
  | writeReg k v => exact sameView_writeReg h k v
  | readByte b off => exact sameView_readByte hequal b off
  | writeByte b off x => exact sameView_writeByte h b off x

end Sys2Proof.Proofs
